-- ==== Sys2Proof/Word.lean ====
section
/-!
DEFINITION. The words of the W2410: bytes, 16-bit halves and 32-bit site-clock times.
-/

namespace Sys2Proof

/-- One byte of a station or node frame (chapter 11). -/
abbrev Byte := BitVec 8

/-- A 16-bit field: a raw sample, a train sequence number, a register value. -/
abbrev Half := BitVec 16

/-- A value or an interval of the 32-bit microsecond site clock (R1, R2). -/
abbrev Time := BitVec 32

end Sys2Proof
end

