-- ==== Sys2Proof/Syntax.lean ====
section
/-!
DEFINITION. The commands of the block: one constructor of `Instr` per row of spec/opcode_table.json, in the
table's order. The table gives its rows no operand bits; the operands here are what the row's rule takes from
outside (a pin and its level, the bytes of a received frame) or what says which of several waiting pieces of work
the event is (a head, an axle ordinal, a bay, a node address). Every row but POWER_ON carries first the
microseconds `dt` by which the site clock advances before the event is taken (R1; assumption 2).
-/

namespace Sys2Proof

/-- The two wheel sensor heads. -/
inductive Head where
  | a | b
deriving DecidableEq, Repr

/-- The two coils of a head; c1 is the nearer to the A end of the measuring zone. -/
inductive Coil where
  | c1 | c2
deriving DecidableEq, Repr

/-- The two approach inputs. -/
inductive Approach where
  | apr1 | apr2
deriving DecidableEq, Repr

/-- The two rails, fixed to the site. -/
inductive Rail where
  | r1 | r2
deriving DecidableEq, Repr

/-- A node address 1 to 6, held as 0 to 5. -/
abbrev NodeAddr := Fin 6

/-- A Channel Table index 0 to 23. -/
abbrev ChanIdx := Fin 24

/-- A bay number 1 to 6, held as 0 to 5. -/
abbrev BayNo := Fin 6

/-- The steps of the block. `dt` is the time in microseconds since the step before. -/
inductive Instr where
  | powerOn
  /-- The pin of coil `c` of head `h` takes the level `occupied`. -/
  | coilPinTransition (dt : Time) (h : Head) (c : Coil) (occupied : Bool)
  | candidateCommit (dt : Time) (h : Head) (c : Coil)
  /-- The session controller takes the oldest committed edge of coil `c` of head `h`. -/
  | coilEdge (dt : Time) (h : Head) (c : Coil)
  | decoderStep (dt : Time) (h : Head)
  /-- The session controller takes the oldest emitted crossing of head `h`. -/
  | crossing (dt : Time) (h : Head)
  | approachPinChange (dt : Time) (i : Approach) (asserted : Bool)
  | approachEdge (dt : Time) (i : Approach)
  | armExpiry (dt : Time)
  | standstillExpiry (dt : Time)
  | clearExpiry (dt : Time)
  | abandonExpiry (dt : Time)
  | idleExpiry (dt : Time)
  | settleExpiry (dt : Time)
  | axleOverdue (dt : Time) (ordinal : Nat)
  | closeMeasurementsDone (dt : Time)
  | reportCopyComplete (dt : Time)
  | bayRead (dt : Time) (ordinal : Nat) (rail : Rail) (bay : BayNo)
  | loadReadLimit (dt : Time) (ordinal : Nat)
  | loadPartComplete (dt : Time) (ordinal : Nat)
  | scannerRead (dt : Time) (ordinal : Nat) (rail : Rail)
  | bearingReadLimit (dt : Time) (ordinal : Nat)
  | bearingPartComplete (dt : Time) (ordinal : Nat)
  | segmentationRun (dt : Time)
  | cameraPulseStart (dt : Time)
  | cameraPulseEnd (dt : Time)
  | exitPulseEnd (dt : Time)
  | timeMark (dt : Time)
  | downstreamSend (dt : Time)
  /-- An upstream node frame, as its bytes arrived; so in the five rows below. -/
  | samples (dt : Time) (frame : List Byte)
  | autozeroBlockEnd (dt : Time) (index : ChanIdx)
  | identAnswer (dt : Time) (frame : List Byte)
  | pollAnswer (dt : Time) (frame : List Byte)
  | statusAnswer (dt : Time) (frame : List Byte)
  | itemAnswer (dt : Time) (frame : List Byte)
  | upstreamDiscard (dt : Time) (frame : List Byte)
  | nodeSilence (dt : Time) (node : NodeAddr)
  | ident (dt : Time)
  | identTimeout (dt : Time)
  | poll (dt : Time)
  | pollEnd (dt : Time)
  | statusRequest (dt : Time)
  | statusReadTimeout (dt : Time)
  | transactionBegin (dt : Time)
  | itemTimeout (dt : Time)
  | ringExpiry (dt : Time) (index : ChanIdx)
  /-- A frame on the inbound station line, as its bytes arrived. -/
  | stationFrameReceive (dt : Time) (frame : List Byte)
  /-- The dispatcher takes the oldest command of the command queue; so in every command row below. -/
  | unknownCommand (dt : Time)
  | loadTable (dt : Time)
  | readTable (dt : Time)
  | describe (dt : Time)
  | readStatus (dt : Time)
  | siteReset (dt : Time)
  | standby (dt : Time)
  | wake (dt : Time)
  | closeTrain (dt : Time)
  | readAxle (dt : Time)
  | nodeTransaction (dt : Time)
  | topAlert (dt : Time)
  | clearAlert (dt : Time)
  | setAlertEnable (dt : Time)
  | reportDirectory (dt : Time)
  | readReport (dt : Time)
  | abortReadout (dt : Time)
  | releaseReport (dt : Time)
  | reportData (dt : Time)
  | heldReply (dt : Time)
  | transmitArbiter (dt : Time)
deriving DecidableEq, Repr

/-- The microseconds that pass before a command is taken; POWER_ON starts the clock afresh. -/
def Instr.dt : Instr → Time
  | .powerOn => 0
  | .coilPinTransition dt .. => dt
  | .candidateCommit dt .. => dt
  | .coilEdge dt .. => dt
  | .decoderStep dt .. => dt
  | .crossing dt .. => dt
  | .approachPinChange dt .. => dt
  | .approachEdge dt .. => dt
  | .armExpiry dt => dt
  | .standstillExpiry dt => dt
  | .clearExpiry dt => dt
  | .abandonExpiry dt => dt
  | .idleExpiry dt => dt
  | .settleExpiry dt => dt
  | .axleOverdue dt .. => dt
  | .closeMeasurementsDone dt => dt
  | .reportCopyComplete dt => dt
  | .bayRead dt .. => dt
  | .loadReadLimit dt .. => dt
  | .loadPartComplete dt .. => dt
  | .scannerRead dt .. => dt
  | .bearingReadLimit dt .. => dt
  | .bearingPartComplete dt .. => dt
  | .segmentationRun dt => dt
  | .cameraPulseStart dt => dt
  | .cameraPulseEnd dt => dt
  | .exitPulseEnd dt => dt
  | .timeMark dt => dt
  | .downstreamSend dt => dt
  | .samples dt .. => dt
  | .autozeroBlockEnd dt .. => dt
  | .identAnswer dt .. => dt
  | .pollAnswer dt .. => dt
  | .statusAnswer dt .. => dt
  | .itemAnswer dt .. => dt
  | .upstreamDiscard dt .. => dt
  | .nodeSilence dt .. => dt
  | .ident dt => dt
  | .identTimeout dt => dt
  | .poll dt => dt
  | .pollEnd dt => dt
  | .statusRequest dt => dt
  | .statusReadTimeout dt => dt
  | .transactionBegin dt => dt
  | .itemTimeout dt => dt
  | .ringExpiry dt .. => dt
  | .stationFrameReceive dt .. => dt
  | .unknownCommand dt => dt
  | .loadTable dt => dt
  | .readTable dt => dt
  | .describe dt => dt
  | .readStatus dt => dt
  | .siteReset dt => dt
  | .standby dt => dt
  | .wake dt => dt
  | .closeTrain dt => dt
  | .readAxle dt => dt
  | .nodeTransaction dt => dt
  | .topAlert dt => dt
  | .clearAlert dt => dt
  | .setAlertEnable dt => dt
  | .reportDirectory dt => dt
  | .readReport dt => dt
  | .abortReadout dt => dt
  | .releaseReport dt => dt
  | .reportData dt => dt
  | .heldReply dt => dt
  | .transmitArbiter dt => dt

/-- A command with another time operand. -/
def Instr.retime (d : Time) : Instr → Instr
  | .powerOn => .powerOn
  | .coilPinTransition _ h c occupied => .coilPinTransition d h c occupied
  | .candidateCommit _ h c => .candidateCommit d h c
  | .coilEdge _ h c => .coilEdge d h c
  | .decoderStep _ h => .decoderStep d h
  | .crossing _ h => .crossing d h
  | .approachPinChange _ i asserted => .approachPinChange d i asserted
  | .approachEdge _ i => .approachEdge d i
  | .armExpiry _ => .armExpiry d
  | .standstillExpiry _ => .standstillExpiry d
  | .clearExpiry _ => .clearExpiry d
  | .abandonExpiry _ => .abandonExpiry d
  | .idleExpiry _ => .idleExpiry d
  | .settleExpiry _ => .settleExpiry d
  | .axleOverdue _ ordinal => .axleOverdue d ordinal
  | .closeMeasurementsDone _ => .closeMeasurementsDone d
  | .reportCopyComplete _ => .reportCopyComplete d
  | .bayRead _ ordinal rail bay => .bayRead d ordinal rail bay
  | .loadReadLimit _ ordinal => .loadReadLimit d ordinal
  | .loadPartComplete _ ordinal => .loadPartComplete d ordinal
  | .scannerRead _ ordinal rail => .scannerRead d ordinal rail
  | .bearingReadLimit _ ordinal => .bearingReadLimit d ordinal
  | .bearingPartComplete _ ordinal => .bearingPartComplete d ordinal
  | .segmentationRun _ => .segmentationRun d
  | .cameraPulseStart _ => .cameraPulseStart d
  | .cameraPulseEnd _ => .cameraPulseEnd d
  | .exitPulseEnd _ => .exitPulseEnd d
  | .timeMark _ => .timeMark d
  | .downstreamSend _ => .downstreamSend d
  | .samples _ frame => .samples d frame
  | .autozeroBlockEnd _ index => .autozeroBlockEnd d index
  | .identAnswer _ frame => .identAnswer d frame
  | .pollAnswer _ frame => .pollAnswer d frame
  | .statusAnswer _ frame => .statusAnswer d frame
  | .itemAnswer _ frame => .itemAnswer d frame
  | .upstreamDiscard _ frame => .upstreamDiscard d frame
  | .nodeSilence _ node => .nodeSilence d node
  | .ident _ => .ident d
  | .identTimeout _ => .identTimeout d
  | .poll _ => .poll d
  | .pollEnd _ => .pollEnd d
  | .statusRequest _ => .statusRequest d
  | .statusReadTimeout _ => .statusReadTimeout d
  | .transactionBegin _ => .transactionBegin d
  | .itemTimeout _ => .itemTimeout d
  | .ringExpiry _ index => .ringExpiry d index
  | .stationFrameReceive _ frame => .stationFrameReceive d frame
  | .unknownCommand _ => .unknownCommand d
  | .loadTable _ => .loadTable d
  | .readTable _ => .readTable d
  | .describe _ => .describe d
  | .readStatus _ => .readStatus d
  | .siteReset _ => .siteReset d
  | .standby _ => .standby d
  | .wake _ => .wake d
  | .closeTrain _ => .closeTrain d
  | .readAxle _ => .readAxle d
  | .nodeTransaction _ => .nodeTransaction d
  | .topAlert _ => .topAlert d
  | .clearAlert _ => .clearAlert d
  | .setAlertEnable _ => .setAlertEnable d
  | .reportDirectory _ => .reportDirectory d
  | .readReport _ => .readReport d
  | .abortReadout _ => .abortReadout d
  | .releaseReport _ => .releaseReport d
  | .reportData _ => .reportData d
  | .heldReply _ => .heldReply d
  | .transmitArbiter _ => .transmitArbiter d

end Sys2Proof
end

