-- ==== Sys2Proof/Decode.lean ====
section
/-!
DEFINITION. The command that a word spells by the bits of spec/opcode_table.json. The table gives no row any bits:
the steps of the block are events on its pins, lines and timers, so no word spells one (assumption 15). The bytes of
the frames that carry the site computer's commands are read in Machine/Operands.lean.
-/

namespace Sys2Proof

/-- The command a word of `nbits` bits spells by the table: none. -/
def decodeTableWord (_nbits _w : Nat) : Option Instr := none

end Sys2Proof
end

