-- ==== Sys2Proof/Config.lean ====
section
/-!
DEFINITION. The free values: what the spec leaves open and the machine still produces. Each is an opaque constant
with no body, applied to the counter `State.freeCount`, so that no proof can know a value of it (assumption 9).
-/

namespace Sys2Proof

/-- A byte the spec does not state: the command code echoed for a COMMAND with an empty payload, and the bytes
after the valid byte of a table entry never loaded (assumptions 10 and 12). -/
opaque Config.freeByte : Nat → BitVec 8

/-- The two-byte index of a RANGE reply where no rule names the index (assumption 11). -/
opaque Config.freeIndex : Nat → BitVec 16

/-- Whether a record is copied late in step 5 of the close operation, after a camera outcome was written to it
(R154 leaves the moment within the copy open; assumption 18). -/
opaque Config.copiedLate : Nat → Bool

end Sys2Proof
end

