-- ==== Sys2Proof/Machine/State.lean ====
section
/-!
DEFINITION. The state of the W2410 as plain data, block by block (Table 1 of the introduction), the reasons a step
can stop, and the state after reset (power-on). Fields marked "model's own" are not the spec's: they hand work from
one step of the opcode table to a later one.
-/

namespace Sys2Proof.Machine

/-! ## Pairs -/

/-- One thing for each head. -/
structure PerHead (α : Type) where
  a : α
  b : α
deriving DecidableEq, Repr

/-- One thing for each rail. -/
structure PerRail (α : Type) where
  r1 : α
  r2 : α
deriving DecidableEq, Repr

def PerHead.get {α : Type} (p : PerHead α) : Head → α
  | .a => p.a
  | .b => p.b

def PerHead.set {α : Type} (p : PerHead α) (h : Head) (x : α) : PerHead α :=
  match h with
  | .a => { p with a := x }
  | .b => { p with b := x }

def PerRail.get {α : Type} (p : PerRail α) : Rail → α
  | .r1 => p.r1
  | .r2 => p.r2

def PerRail.set {α : Type} (p : PerRail α) (r : Rail) (x : α) : PerRail α :=
  match r with
  | .r1 => { p with r1 := x }
  | .r2 => { p with r2 := x }

/-! ## Quantities (introduction, Tables 3 and 4) -/

/-- Absence reasons (Table 3). -/
inductive Absence where
  | noChannel | speedRange | stopInZone | stale | short | clipped | headDisagree | notSettled | noAmbient
deriving DecidableEq, Repr

/-- The flags a present quantity may carry: the degradation flags of Table 4, and COIL_BASED on a spacing (R18). -/
structure Marks where
  fewBays : Bool := false
  unsteady : Bool := false
  drift : Bool := false
  peakClipped : Bool := false
  coilBased : Bool := false
deriving DecidableEq, Repr

/-- A measured quantity of a record: unformed until written (R44), then present or absent with a reason. -/
inductive Quantity where
  | unformed
  | absent (reason : Absence)
  | present (value : Int) (marks : Marks)
deriving DecidableEq, Repr

inductive Direction where
  | forward | reverse
deriving DecidableEq, Repr

/-! ## Head decoders (chapter 1) -/

/-- An edge of a capture queue (R6): its time and whether it is a rise. -/
structure Edge where
  time : Time
  rise : Bool
deriving DecidableEq, Repr

/-- A candidate edge of an edge filter, with the minimum pulse width read when it was formed (R4). -/
structure Candidate where
  time : Time
  rise : Bool
  minPulse : Nat
deriving DecidableEq, Repr

/-- One coil line: pin, edge filter and capture queue (R4 to R6). -/
structure CoilLine where
  /-- The present pin level; `true` is occupied. -/
  pin : Bool := false
  filtered : Bool := false
  candidate : Option Candidate := none
  /-- The capture queue, oldest first. -/
  queue : List Edge := []
  overrun : Bool := false
  /-- Model's own: stamps of committed edges that the session controller has not taken yet (R13). -/
  toSession : List Time := []
deriving DecidableEq, Repr

/-- A crossing in progress (section 1.4). -/
structure Passage where
  dir : Direction
  firstRise : Time
  secondRise : Option Time := none
  entry11 : Option Time := none
  exit11 : Option Time := none
  /-- Model's own: the passage was begun before the part last entered STANDBY (R19). -/
  beforeStandby : Bool := false
deriving DecidableEq, Repr

/-- An emitted crossing (R10). -/
structure Crossing where
  head : Head
  dir : Direction
  time : Time
  interval : Time
  /-- The coil-pair speed: present, or absent HEAD_DISAGREE. -/
  speed : Quantity
  /-- Emitted while no Site Constants had ever been activated: the session controller does not apply it (R13). -/
  unsited : Bool := false
deriving DecidableEq, Repr

/-- One head decoder with its two coil lines. -/
structure HeadState where
  c1 : CoilLine := {}
  c2 : CoilLine := {}
  /-- The phase: c1 occupied, c2 occupied. -/
  phase1 : Bool := false
  phase2 : Bool := false
  /-- The mode: `true` is RESYNC, `false` TRACKING. -/
  resync : Bool := false
  passage : Option Passage := none
  /-- Microseconds left of the decoder step in progress (R8). -/
  busy : Nat := 0
  /-- The signed crossing count (R15). -/
  count : Nat := 0
  chatter : Nat := 0
  faults : Nat := 0
  /-- Model's own: emitted crossings that the session controller has not taken yet, oldest first (R13). -/
  emitted : List Crossing := []
deriving DecidableEq, Repr

/-! ## Session controller (chapter 2) -/

inductive SessionState where
  | notReady | standby | idle | armed | inTrain | stopped | clearing | closing
deriving DecidableEq, Repr

inductive Power where
  | active | standby
deriving DecidableEq, Repr

inductive Closure where
  | normal | withdrawn | abandoned | forced
deriving DecidableEq, Repr

inductive WakeCause where
  | powerOn | approach1 | approach2 | headEdge | stationWake
deriving DecidableEq, Repr

inductive SettleState where
  | waiting | settling | settled
deriving DecidableEq, Repr

/-- A running timer: its start time and its length (R24). -/
structure Timer where
  start : Time
  length : Time
deriving DecidableEq, Repr

/-- One approach input: pin, qualified level and the start of a qualification under way (R22). -/
structure ApproachInput where
  pin : Bool := false
  qualified : Bool := false
  since : Option Time := none
deriving DecidableEq, Repr

/-- The session record (R32, with COUNT_MISMATCH of R33 and OUTLIER_NOT_TESTED of R116). -/
structure SessionRecord where
  seq : Half := 0
  openTime : Option Time := none
  direction : Option Direction := none
  firstCrossing : Option Time := none
  lastCrossing : Option Time := none
  closure : Option Closure := none
  closeStart : Option Time := none
  noApproach : Bool := false
  incompleteStart : Bool := false
  notSettledStart : Bool := false
  countMismatch : Bool := false
  outlierNotTested : PerRail Bool := ⟨false, false⟩
deriving DecidableEq, Repr

/-- The session controller. -/
structure SessionCtl where
  state : SessionState := .notReady
  power : Power := .active
  /-- The train sequence number (R20). -/
  seq : Half := 0
  record : SessionRecord := {}
  entryHead : Option Head := none
  /-- T2 has been raised in this session (R14). -/
  reversalRaised : Bool := false
  apr1 : ApproachInput := {}
  apr2 : ApproachInput := {}
  arm : Option Timer := none
  standstill : Option Timer := none
  clear : Option Timer := none
  abandon : Option Timer := none
  idle : Option Timer := none
  settle : Option Timer := none
  settleState : SettleState := .waiting
  /-- Model's own: a THERMAL node has become ONLINE since power-on (R41). -/
  thermalSeen : Bool := false
  wakeCause : WakeCause := .powerOn
  wakeTime : Time := 0
  rememberedApproach : Bool := false
  held : List Crossing := []
  /-- A crossing was discarded from the held crossings in this CLOSING (R36). -/
  heldDiscarded : Bool := false
  falseApproaches : Nat := 0
deriving DecidableEq, Repr

/-! ## Alert unit (chapter 8) -/

/-- The 21 alert kinds in priority order (Table 8.2). -/
inductive AlertKind where
  | s1 | s2 | s3 | s4 | s5 | s6 | s7
  | t1 | t2 | t3 | t4 | t5 | t6 | t7 | t8
  | n1 | n2 | n3 | n4 | n5 | n6
deriving DecidableEq, Repr

/-- An alert source (R137). -/
inductive Source where
  | empty
  | train (seq : Half)
  | axle (seq : Half) (ordinal : Nat)
  | vehicle (seq : Half) (index : Nat)
  | node (seq : Half) (addr : NodeAddr)
  | head (seq : Half) (h : Head)
deriving DecidableEq, Repr

/-- An entry of the Alert Table (R137). -/
structure AlertEntry where
  pending : Bool := false
  enabled : Bool := true
  count : Nat := 0
  first : Option Source := none
  last : Option Source := none
deriving DecidableEq, Repr

structure AlertUnit where
  entries : Vector AlertEntry 21 := .replicate 21 {}
  trainRaises : Vector Nat 21 := .replicate 21 0
  framesNotQueued : Nat := 0
deriving DecidableEq, Repr

/-! ## Axle tracker (chapter 3) -/

inductive Position where
  | beforeEntry | between | beyondExit
deriving DecidableEq, Repr

inductive MeasStatus where
  | none | inFlight | done
deriving DecidableEq, Repr

inductive CameraOutcome where
  | fired | late | missed
deriving DecidableEq, Repr

/-- The load results of one rail (Table 3.2). -/
structure LoadResult where
  static : Quantity := .unformed
  bayCount : Nat := 0
  peak : Quantity := .unformed
  increment : Quantity := .unformed
  ratio : Quantity := .unformed
deriving DecidableEq, Repr

/-- The bearing results of one rail (Table 3.2). -/
structure BearingResult where
  peak : Quantity := .unformed
  rise : Quantity := .unformed
deriving DecidableEq, Repr

/-- An axle record (Table 3.2). What has no unformed form in R179 (the head-disagreeing and unsteady marks before the
measurement starts, the bay counts before the load part completes) is held and sent as clear and 0 until it is formed:
the model's choice (assumption 32). -/
structure AxleRecord where
  ordinal : Nat
  position : Position := .between
  passCount : Nat := 1
  entryTime : Time
  entryInterval : Time
  entrySpeed : Quantity
  exitTime : Option Time := none
  exitInterval : Option Time := none
  exitSpeed : Quantity := .unformed
  speed : Quantity := .unformed
  spacing : Quantity := .unformed
  headDisagree : Bool := false
  unsteady : Bool := false
  stopFlag : Bool := false
  status : MeasStatus := .none
  load : PerRail LoadResult := ⟨{}, {}⟩
  axleLoad : Quantity := .unformed
  bearing : PerRail BearingResult := ⟨{}, {}⟩
  sideDiff : Quantity := .unformed
  vehicle : Option Nat := none
  alerts : List AlertKind := []
  camera : Option CameraOutcome := none
deriving DecidableEq, Repr

structure AxleTracker where
  /-- The Axle Table, ordinal 1 first (R43). -/
  records : List AxleRecord := []
  highWater : Nat := 0
  truncated : Bool := false
  mismatch : Nat := 0
  inFlight : Nat := 0
  /-- The train sequence number of the session the table belongs to (R60). -/
  tableSeq : Half := 0
  /-- Ordinals marked overdue (R53). -/
  overdue : List Nat := []
deriving DecidableEq, Repr

/-! ## Node link controller (chapter 4) -/

inductive NodeStatus where
  | absent | online | silent | fault
deriving DecidableEq, Repr

inductive NodeType where
  | load | thermal
deriving DecidableEq, Repr

inductive Role where
  | spare | bearing1 | bearing2 | ambient
deriving DecidableEq, Repr

inductive FaultKind where
  | openCircuit | overrange | shutterStuck | heaterFail | supplyLow
deriving DecidableEq, Repr

/-- An entry of a node's fault list: a local channel, or NODE (`none`), and a fault kind. -/
structure FaultEntry where
  channel : Option Nat
  kind : FaultKind
deriving DecidableEq, Repr

/-- A Node Table entry (Table 4.4), with the link controller's work marks for the node (R66, R69). -/
structure NodeEntry where
  status : NodeStatus := .absent
  type : Option NodeType := none
  /-- The declared roles of local channels 0 to 3; empty unless THERMAL. -/
  roles : List Role := []
  lastFrame : Option Time := none
  faults : List FaultEntry := []
  identPending : Bool := true
  /-- A status read is owed (R66). -/
  owed : Bool := false
  /-- The node answered the last poll (R69). -/
  requesting : Bool := false
deriving DecidableEq, Repr

inductive TxMode where
  | single | blockStop | blockIgnore | blockRepeat | scan
deriving DecidableEq, Repr

/-- An item of a NODE TRANSACTION (section 4.4). -/
structure TxItem where
  node : NodeAddr
  register : Byte
  write : Bool
  value : Half
deriving DecidableEq, Repr

/-- The contents of the site computer's transaction slot (R72, R73). -/
structure Transaction where
  tag : Byte
  mode : TxMode
  /-- The no-answer-abort disable flag. -/
  disable : Bool
  items : List TxItem
  /-- `false` is WAITING, `true` IN_FLIGHT. -/
  inFlight : Bool := false
  /-- Index of the item being served; in SCAN the address being served, 0 for address 1. -/
  index : Nat := 0
  /-- The time the item's first request was sent; none while it has not been sent (R75). -/
  firstAttempt : Option Time := none
  attempted : Nat := 0
  accepted : Nat := 0
  refused : Nat := 0
  unanswered : Nat := 0
  /-- The kept READ values with their item index, or in SCAN their address. -/
  values : List (Nat × Half) := []
  /-- A session opened while the transaction was in flight (R77). -/
  sessionOpened : Bool := false
deriving DecidableEq, Repr

/-- The piece of work in flight on the node port (R68), with the time its request went onto the line; of a poll, whether it
has gone onto the line, and when it ended there, since its answer slots follow the end of the POLL (R69). R68 has a
transaction in flight from the sending of its first request: that it is held here, so that no other work can begin, from
when the request becomes ready and waits for the line is the model's choice (assumption 36). -/
inductive Work where
  | ident (k : NodeAddr) (sentAt : Option Time)
  | poll (sent : Bool) (endedAt : Option Time)
  | status (k : NodeAddr) (sentAt : Option Time)
  | item (sentAt : Option Time)
deriving DecidableEq, Repr

/-- A downstream frame (Table 4.3). -/
inductive DownFrame where
  | timeMark (t : Time)
  /-- To one node, or to all. -/
  | halt (dest : Option NodeAddr)
  | resume
  | ident (k : NodeAddr)
  | poll
  | statusRequest (k : NodeAddr)
  | itemRequest (k : NodeAddr) (register : Byte) (write : Bool) (value : Half)
deriving DecidableEq, Repr

structure NodeLink where
  nodes : Vector NodeEntry 6 := .replicate 6 {}
  work : Option Work := none
  pollWanted : Bool := false
  slot : Option Transaction := none
  /-- Downstream frames that are ready and not yet sent, in the order they became ready (R62). -/
  ready : List DownFrame := []
  /-- The frame on the downstream line. -/
  line : Option DownFrame := none
  /-- The next mark time of the site clock (R3). -/
  nextMark : Time := 0
  spurious : Nat := 0
  discards : Nat := 0
deriving DecidableEq, Repr

/-- A stored sample (R79). -/
structure Sample where
  time : Time
  raw : Half
  gap : Bool
deriving DecidableEq, Repr

/-! ## Load and thermal measurement units (chapters 5 and 6) -/

/-- The autozero state of one LOAD index (R99). -/
structure ZeroTrack where
  offset : Int
  drift : Bool := false
  count : Nat := 0
  sum : Int := 0
deriving DecidableEq, Repr

/-- The reasons for which a Channel Table index is unusable (Table 4.8). -/
inductive Unusable where
  | notValid | nodeAbsent | nodeSilent | kindMismatch | channelFault
deriving DecidableEq, Repr

/-- The answer of a window read (R82): STALE, or the samples of the window and the ring's newest time, none for an
empty ring. -/
inductive WindowAnswer where
  | stale
  | samples (l : List Sample) (newest : Option Time)
deriving DecidableEq, Repr

/-- A read's kept answer, with the index's usability (none, or the reason it is unusable) and DRIFT mark at that moment
(R82, R86). -/
structure ReadAnswer where
  unusable : Option Unusable
  drift : Bool
  window : WindowAnswer
deriving DecidableEq, Repr

/-- A configured bay of a load part (R84); `read` is none while it is WAITING. -/
structure LoadBay where
  rail : Rail
  bay : BayNo
  index : ChanIdx
  start : Time
  stop : Time
  coreStart : Time
  coreStop : Time
  read : Option ReadAnswer := none
deriving DecidableEq, Repr

/-- A configured scanner of a bearing part (R109); `read` is none while it is WAITING. -/
structure Scanner where
  rail : Rail
  index : ChanIdx
  start : Time
  stop : Time
  read : Option ReadAnswer := none
deriving DecidableEq, Repr

/-- What both parts of a measurement take from the axle record at their start (R84, R109). -/
structure AxleData where
  ordinal : Nat
  tE : Time
  tX : Time
  dt : Time
  speed : Quantity
  stopFlag : Bool
  headDisagree : Bool
  unsteady : Bool
  dir : Direction
  start : Time
deriving DecidableEq, Repr

structure LoadPart where
  axle : AxleData
  /-- The axle-level absence of R85, if any. -/
  whole : Option Absence
  bays : List LoadBay
deriving DecidableEq, Repr

structure BearingPart where
  axle : AxleData
  /-- The axle-level absence of R109, if any. -/
  whole : Option Absence
  scanners : List Scanner
deriving DecidableEq, Repr

structure LoadUnit where
  zero : Vector (Option ZeroTrack) 24 := .replicate 24 none
  parts : List LoadPart := []
deriving DecidableEq, Repr

/-- The ambient reference (R108); `value` none is absent NO_AMBIENT. -/
structure Ambient where
  value : Option Int := none
  count : Nat := 0
  latched : Option Time := none
deriving DecidableEq, Repr

structure ThermalUnit where
  ambient : Ambient := {}
  parts : List BearingPart := []
deriving DecidableEq, Repr

/-! ## Grouping and judgement unit (chapter 7) -/

/-- A vehicle record (R122). R127 calls the judgement flags PARTIAL and UNJUDGED of a vehicle just formed unformed, and
Table 11.10 has no form for that: that they are held, and sent, as clear until the judgement is the model's choice
(assumption 32). -/
structure Vehicle where
  index : Nat
  /-- `none` is UNCLASSIFIED. -/
  cls : Option Nat
  pattern : Option Nat
  first : Nat
  count : Nat
  set : Nat
  atClose : Bool
  judged : Bool := false
  /-- The total load with its contributing count; none is unformed. -/
  total : Option (Int × Nat) := none
  isPartial : Bool := false
  unjudged : Bool := false
  verdicts : List AlertKind := []
deriving DecidableEq, Repr

structure Grouping where
  vehicles : List Vehicle := []
  cursor : Nat := 1
  /-- Model's own: notices that a spacing is known whose run has not been taken yet (R123). -/
  notices : Nat := 0
deriving DecidableEq, Repr

/-! ## Gate unit (chapter 8) -/

inductive GateAction where
  | forcedLow | activeLow | activeHigh | forcedHigh
deriving DecidableEq, Repr

inductive G3Source where
  | none | sessionOpen | anySPending | exitPulse
deriving DecidableEq, Repr

/-- A waiting camera pulse (R149). -/
structure CameraPulse where
  fire : Time
  ordinal : Nat
  seq : Half
deriving DecidableEq, Repr

/-- A camera pulse in output: its start and the width read at the start (R150). -/
structure PulseOut where
  start : Time
  width : Nat
deriving DecidableEq, Repr

structure GateUnit where
  /-- The camera trigger queue, first to fire first. -/
  queue : List CameraPulse := []
  pulse : Option PulseOut := none
  /-- The application time of the last exit pulse request, while the EXIT_PULSE condition holds (R147). -/
  exitPulse : Option Time := none
deriving DecidableEq, Repr

/-! ## Table store (chapter 10) -/

/-- The Site Constants record (Table 10.5). -/
structure SiteConstants where
  siteId : Nat
  lab : Nat
  coilSpacing : Nat
  minPulse : Nat
  standstill : Nat
  clear : Nat
  abandon : Nat
  settle : Nat
  arm : Nat
  idle : Nat
  bayLength : Nat
  bayStart : PerRail (Vector (Option Nat) 6)
  core : Nat
  halfWindow : Nat
  minSpeed : Nat
  maxSpeed : Nat
  impactCritical : Nat
  axleLoadCritical : Nat
  scanner : PerRail (Option Nat)
  bearingCritical : Nat
  unclassifiedGap : Nat
  gates : Vector GateAction 4
  g3 : G3Source
  liveResults : Bool
  camera : Option Nat
  cameraWidth : Nat
deriving DecidableEq, Repr

inductive ChannelKind where
  | load | bearing | ambient
deriving DecidableEq, Repr

inductive ForwardMode where
  | never | session | always | decimate
deriving DecidableEq, Repr

/-- A valid Channel Table entry (Tables 4.2 and 5.2; decimation n of section 10.5). -/
structure Channel where
  node : NodeAddr
  channel : Nat
  kind : ChannelKind
  /-- 1 or 2; any byte when the kind is AMBIENT (R171). -/
  rail : Nat
  /-- 1 to 6 for LOAD, 0 otherwise. -/
  bay : Nat
  forward : ForwardMode
  decimation : Nat
  offset : Int
  gain : Nat
deriving DecidableEq, Repr

/-- The Speed Band Table (R120). -/
structure SpeedBands where
  b1 : Nat := 400
  b2 : Nat := 800
  b3 : Nat := 1200
deriving DecidableEq, Repr

/-- A valid Pattern Table entry (R119). -/
structure Pattern where
  cls : Nat
  n : Nat
  spacings : List Nat
  tolerance : Nat
  gap : Nat
  set : Nat
deriving DecidableEq, Repr

/-- A valid threshold set (R121). -/
structure Threshold where
  impact : Vector Nat 4
  ratio : Nat
  axleLoad : Nat
  imbalance : Nat
  rise : Nat
  difference : Nat
  outlierMargin : Nat
deriving DecidableEq, Repr

/-- An entry of a table with a valid field: never loaded, loaded as not valid (its bytes kept for READ TABLE), or
valid. -/
inductive Entry (α : Type) where
  | neverLoaded
  | notValid (raw : List Byte)
  | valid (e : α)
deriving DecidableEq, Repr

/-- The active bank (R170). -/
structure ActiveBank where
  site : Option SiteConstants := none
  channels : Vector (Entry Channel) 24 := .replicate 24 .neverLoaded
  bands : SpeedBands := {}
  patterns : Vector (Entry Pattern) 64 := .replicate 64 .neverLoaded
  thresholds : Vector (Entry Threshold) 16 := .replicate 16 .neverLoaded
deriving DecidableEq, Repr

/-- The pending bank: for each index a pending entry, or none (R170). -/
structure PendingBank where
  site : Option SiteConstants := none
  channels : Vector (Option (Entry Channel)) 24 := .replicate 24 none
  bands : Option SpeedBands := none
  patterns : Vector (Option (Entry Pattern)) 64 := .replicate 64 none
  thresholds : Vector (Option (Entry Threshold)) 16 := .replicate 16 none
deriving DecidableEq, Repr

structure TableStore where
  active : ActiveBank := {}
  pending : PendingBank := {}
deriving DecidableEq, Repr

/-! ## Report unit (chapter 9) -/

/-- A report header (Table 9.2). -/
structure ReportHeader where
  record : SessionRecord
  siteId : Nat
  truncated : Bool
  entryCount : Nat
  exitCount : Nat
  highWater : Nat
  mismatch : Nat
  axleCount : Nat
  vehicleCount : Nat
  ambient : Ambient
  summary : Vector Nat 21
deriving DecidableEq, Repr

structure Report where
  header : ReportHeader
  axles : List AxleRecord
  vehicles : List Vehicle
deriving DecidableEq, Repr

inductive SlotState where
  | empty | held | released
deriving DecidableEq, Repr

/-- A slot of the Report Store (R152), less its rank and its in-readout mark, which `ReportUnit` holds. -/
structure Slot where
  state : SlotState := .empty
  report : Option Report := none
  writing : Bool := false
deriving DecidableEq, Repr

inductive Section where
  | header | axles | vehicles
deriving DecidableEq, Repr

/-- The readout engine while RUNNING (section 9.5). Remaining is granted less delivered. -/
structure Readout where
  slot : Fin 4
  part : Section
  tag : Byte
  next : Nat
  granted : Nat
  delivered : Nat := 0
  /-- Model's own: frames of earlier readouts still in the REPORT class. -/
  foreign : Nat := 0
  /-- Model's own: records of this readout whose frames have left the REPORT class (R162). -/
  left : Nat := 0
deriving DecidableEq, Repr

structure ReportUnit where
  slots : Vector Slot 4 := .replicate 4 {}
  /-- The non-EMPTY slots, oldest first: a slot's age rank is its place here, counted from 1. -/
  order : List (Fin 4) := []
  /-- The readout engine: none is IDLE. -/
  engine : Option Readout := none
  /-- The step 5 copy in progress: the chosen slot and the report as far as it is formed (R155). -/
  copy : Option (Fin 4 × Report) := none
  closed : Nat := 0
  releases : Nat := 0
  lost : Nat := 0
deriving DecidableEq, Repr

/-! ## Station port controller (chapter 10) -/

/-- A received command: its tag and its payload, the command code first. -/
structure Command where
  tag : Byte
  payload : List Byte
deriving DecidableEq, Repr

/-- Reply status codes (Table 10.2). -/
inductive Status where
  | ok | unknownCommand | badLength | range | notReady | trainActive | busy | queueFull | noTrain | empty | inReadout
deriving DecidableEq, Repr

/-- A REPLY frame. -/
structure Reply where
  tag : Byte
  code : Byte
  status : Status
  results : List Byte := []
deriving DecidableEq, Repr

/-- A record of a report section. -/
inductive ReportRecord where
  | header (h : ReportHeader)
  | axle (r : AxleRecord)
  | vehicle (v : Vehicle)
deriving DecidableEq, Repr

/-- An outbound station frame (Table 10.1). -/
inductive OutFrame where
  | reply (r : Reply)
  | alert (k : AlertKind) (count : Nat) (src : Source)
  | reportData (slot : Fin 4) (part : Section) (seq : Half) (first : Nat) (records : List ReportRecord)
  | axleResult (seq : Half) (r : AxleRecord)
  | vehicleResult (seq : Half) (v : Vehicle)
  | trainEnd (seq : Half) (closure : Option Closure) (entry exit axles vehicles : Nat) (slot : Fin 4)
  | forward (node : NodeAddr) (frame : List Byte)
deriving DecidableEq, Repr

structure StationPort where
  commands : List Command := []
  alertQ : List OutFrame := []
  replyQ : List OutFrame := []
  reportQ : List OutFrame := []
  resultQ : List OutFrame := []
  forwardQ : List OutFrame := []
  /-- Replies held by their owners, in the order they were offered (R166). -/
  heldReplies : List OutFrame := []
  /-- The frame on the outbound line. -/
  line : Option OutFrame := none
  crcDiscards : Nat := 0
  commandsDropped : Nat := 0
  resultsSkipped : Nat := 0
  forwardsDropped : Nat := 0
  /-- The decimation count of each Channel Table entry (R168). -/
  decimation : Vector Nat 24 := .replicate 24 0
deriving DecidableEq, Repr

/-! ## The whole part -/

/-- The state of the W2410, and the queue of commands waiting to be taken. -/
structure State where
  /-- The site clock (R1). -/
  clock : Time := 0
  heads : PerHead HeadState := ⟨{}, {}⟩
  session : SessionCtl := {}
  axles : AxleTracker := {}
  node : NodeLink := {}
  /-- The sample rings, one per Channel Table index, oldest sample first (R79). -/
  rings : Vector (List Sample) 24 := .replicate 24 []
  load : LoadUnit := {}
  thermal : ThermalUnit := {}
  group : Grouping := {}
  alert : AlertUnit := {}
  gate : GateUnit := {}
  report : ReportUnit := {}
  port : StationPort := {}
  tables : TableStore := {}
  /-- Model's own: how many free values have been drawn (assumption 9). -/
  freeCount : Nat := 0
  /-- The queue of commands that are waiting, first in, first out. -/
  pending : List Instr := []
deriving DecidableEq, Repr

/-- The machine right after reset: every field at its power-on value (R19, R20, R61, R83, R104, R118, R135, Tables
8.4, 8.6, 9.5 and 10.6). The pins are taken to be clear and deasserted (assumption 7), and no command waits. -/
def State.reset : State := {}

/-- The reasons for which a step stops with a fault. There is none: the spec gives every step an effect. -/
inductive Fault where
deriving DecidableEq, Repr

/-- The reasons for which a step is refused. -/
inductive Refusal where
  /-- Raised by an arm of `exec` for a row with no meaning yet (safe: the machine stops). No arm raises it. -/
  | notModelled (mnemonic : String)
deriving DecidableEq, Repr

end Sys2Proof.Machine
end

