-- ==== Sys2Proof/Machine/Ops.lean ====
section
/-!
DEFINITION. The shared operations: exact arithmetic and time comparison (R2, introduction), the passing of time,
reading and updating the parts of the state by name, offering frames to the transmit classes (R139, R166, R167),
taking a raise (R138) and counting a head fault (R7).
-/

namespace Sys2Proof.Machine

/-! ## Arithmetic -/

/-- The quotient `n / d` rounded to the nearest integer, halves away from zero. -/
def roundDiv (n : Int) (d : Nat) : Int :=
  if 0 ≤ n then Int.ofNat ((2 * n.toNat + d) / (2 * d)) else -Int.ofNat ((2 * (-n).toNat + d) / (2 * d))

/-- The clamp of `x` to `[lo, hi]`. -/
def clamp (lo hi x : Int) : Int := if x < lo then lo else if hi < x then hi else x

/-- A saturating count in 0..65535, raised by 1. -/
def bump (n : Nat) : Nat := min (n + 1) 65535

/-- Sum of a list of integers. -/
def sumInt (l : List Int) : Int := l.foldl (· + ·) 0

/-- The greatest of a list of integers; none for the empty list. -/
def maxInt : List Int → Option Int
  | [] => none
  | x :: l => match maxInt l with
    | none => some x
    | some m => some (max x m)

/-- `f` applied to every element of a vector. -/
def Vec.map {α β : Type} {n : Nat} (f : α → β) (v : Vector α n) : Vector β n := Vector.ofFn fun i => f v[i]

/-! ## Times (R2) -/

/-- Time `t` is reached at `now`. -/
def reached (now t : Time) : Bool := decide ((now - t).toNat < 2147483648)

/-- Time `t1` is older than time `t2`. -/
def older (t1 t2 : Time) : Bool := decide (1 ≤ (t2 - t1).toNat ∧ (t2 - t1).toNat < 2147483648)

/-- `n` microseconds as an interval. -/
def micros (n : Nat) : Time := BitVec.ofNat 32 n

/-- `n` seconds as an interval. -/
def seconds (n : Nat) : Time := micros (n * 1000000)

/-- Whether a timer is running and expires at or before `now` (R24). -/
def expired (now : Time) : Option Timer → Bool
  | none => false
  | some t => reached now (t.start + t.length)

/-! ## Passing of time -/

/-- The microseconds `dt` pass: the site clock advances (R1), and with it the decoder steps in progress (R8). -/
def State.advance (s : State) (dt : Time) : State :=
  { s with
    clock := s.clock + dt
    heads := ⟨{ s.heads.a with busy := s.heads.a.busy - dt.toNat },
              { s.heads.b with busy := s.heads.b.busy - dt.toNat }⟩ }

/-! ## Parts of the state by name -/

def HeadState.line (hs : HeadState) : Coil → CoilLine
  | .c1 => hs.c1
  | .c2 => hs.c2

def HeadState.setLine (hs : HeadState) (c : Coil) (l : CoilLine) : HeadState :=
  match c with
  | .c1 => { hs with c1 := l }
  | .c2 => { hs with c2 := l }

def State.head (s : State) (h : Head) : HeadState := s.heads.get h

def State.setHead (s : State) (h : Head) (hs : HeadState) : State := { s with heads := s.heads.set h hs }

def SessionCtl.approach (c : SessionCtl) : Approach → ApproachInput
  | .apr1 => c.apr1
  | .apr2 => c.apr2

def State.setApproach (s : State) (i : Approach) (a : ApproachInput) : State :=
  match i with
  | .apr1 => { s with session.apr1 := a }
  | .apr2 => { s with session.apr2 := a }

/-- The site constants in force, once activated. -/
def State.site (s : State) : Option SiteConstants := s.tables.active.site

/-- Open session: ARMED, IN_TRAIN, STOPPED, CLEARING or CLOSING (note to Table 2.1). -/
def SessionState.isOpen : SessionState → Bool
  | .armed | .inTrain | .stopped | .clearing | .closing => true
  | .notReady | .standby | .idle => false

def State.sessionOpen (s : State) : Bool := s.session.state.isOpen

def otherHead : Head → Head
  | .a => .b
  | .b => .a

/-- The entry count: the count of the entry head; 0 while there is none (R15). -/
def State.entryCount (s : State) : Nat :=
  match s.session.entryHead with
  | some h => (s.head h).count
  | none => 0

/-- The exit count: the count of the exit head; 0 while there is none (R15). -/
def State.exitCount (s : State) : Nat :=
  match s.session.entryHead with
  | some h => (s.head (otherHead h)).count
  | none => 0

/-- The axle record of ordinal `k`. -/
def State.record? (s : State) (k : Nat) : Option AxleRecord := s.axles.records.find? (·.ordinal == k)

/-- `f` applied to the axle record of ordinal `k`. -/
def State.updRecord (s : State) (k : Nat) (f : AxleRecord → AxleRecord) : State :=
  { s with axles.records := s.axles.records.map fun r => if r.ordinal = k then f r else r }

/-- The vehicle record of index `v`. -/
def State.vehicle? (s : State) (v : Nat) : Option Vehicle := s.group.vehicles.find? (·.index == v)

/-- `f` applied to the vehicle record of index `v`. -/
def State.updVehicle (s : State) (v : Nat) (f : Vehicle → Vehicle) : State :=
  { s with group.vehicles := s.group.vehicles.map fun x => if x.index = v then f x else x }

def State.updNode (s : State) (k : NodeAddr) (f : NodeEntry → NodeEntry) : State :=
  { s with node.nodes := s.node.nodes.set k (f s.node.nodes[k]) }

/-- The valid entry at a Channel Table index of the active bank. -/
def State.channel? (s : State) (i : ChanIdx) : Option Channel :=
  match s.tables.active.channels[i] with
  | .valid e => some e
  | _ => none

/-- The valid threshold set of a number in the active bank. -/
def State.threshold? (s : State) (n : Nat) : Option Threshold :=
  if h : n < 16 then
    match s.tables.active.thresholds[n] with
    | .valid e => some e
    | _ => none
  else none

/-- A free byte, and the state that remembers it was drawn. -/
def State.drawByte (s : State) : Byte × State := (Config.freeByte s.freeCount, { s with freeCount := s.freeCount + 1 })

/-- A free index, and the state that remembers it was drawn. -/
def State.drawIndex (s : State) : Half × State := (Config.freeIndex s.freeCount, { s with freeCount := s.freeCount + 1 })

/-! ## Transmit classes (R139, R166, R167) -/

def alertCapacity : Nat := 16
def replyCapacity : Nat := 4
def reportCapacity : Nat := 8
def resultCapacity : Nat := 64
def forwardCapacity : Nat := 32

/-- The REPLY class has room for one frame after the replies held for it (R166). -/
def State.replyRoom (s : State) : Bool := decide (s.port.replyQ.length + s.port.heldReplies.length < replyCapacity)

/-- A REPLY placed in the class, in the place reserved for it. -/
def State.placeReply (s : State) (r : Reply) : State := { s with port.replyQ := s.port.replyQ ++ [.reply r] }

/-- A REPLY offered later than its command: placed when the class has room and no reply is held before it, and
held by its owner otherwise. -/
def State.offerReply (s : State) (r : Reply) : State :=
  if s.port.heldReplies = [] ∧ s.port.replyQ.length < replyCapacity then s.placeReply r
  else { s with port.heldReplies := s.port.heldReplies ++ [.reply r] }

/-- An ALERT frame offered to the ALERT class (R139). -/
def State.offerAlert (s : State) (f : OutFrame) : State :=
  if s.port.alertQ.length < alertCapacity then { s with port.alertQ := s.port.alertQ ++ [f] }
  else { s with alert.framesNotQueued := bump s.alert.framesNotQueued }

/-- A result frame offered to the RESULT class when live results is ON (R167, R169). -/
def State.offerResult (s : State) (f : OutFrame) : State :=
  match s.site with
  | some sc =>
    if sc.liveResults then
      if s.port.resultQ.length < resultCapacity then { s with port.resultQ := s.port.resultQ ++ [f] }
      else { s with port.resultsSkipped := bump s.port.resultsSkipped }
    else s
  | none => s

/-- A FORWARD frame offered to the FORWARD class (R167). -/
def State.offerForward (s : State) (f : OutFrame) : State :=
  if s.port.forwardQ.length < forwardCapacity then { s with port.forwardQ := s.port.forwardQ ++ [f] }
  else { s with port.forwardsDropped := bump s.port.forwardsDropped }

/-! ## Alerts (R136 to R140) -/

/-- The place of a kind in the priority order of Table 8.2, from 0. -/
def AlertKind.idx : AlertKind → Fin 21
  | .s1 => 0 | .s2 => 1 | .s3 => 2 | .s4 => 3 | .s5 => 4 | .s6 => 5 | .s7 => 6
  | .t1 => 7 | .t2 => 8 | .t3 => 9 | .t4 => 10 | .t5 => 11 | .t6 => 12 | .t7 => 13 | .t8 => 14
  | .n1 => 15 | .n2 => 16 | .n3 => 17 | .n4 => 18 | .n5 => 19 | .n6 => 20

/-- The kinds in priority order (R136). -/
def AlertKind.all : List AlertKind :=
  [.s1, .s2, .s3, .s4, .s5, .s6, .s7, .t1, .t2, .t3, .t4, .t5, .t6, .t7, .t8, .n1, .n2, .n3, .n4, .n5, .n6]

def State.alertEntry (s : State) (k : AlertKind) : AlertEntry := s.alert.entries[k.idx]

/-- An entry of the Alert Table after a raise with source `src` (R138, steps 1 to 4). -/
def AlertEntry.raised (e : AlertEntry) (src : Source) : AlertEntry :=
  { e with
    count := bump e.count
    first := if e.pending then e.first else some src
    last := some src
    pending := true }

/-- A kind appended to an axle alert list, unless it stands there (R58). -/
def addKind (l : List AlertKind) (k : AlertKind) : List AlertKind := if k ∈ l then l else l ++ [k]

/-- The axle alert list takes a raise that names a record of the table's own session (R58). -/
def State.noteAxleAlert (s : State) (k : AlertKind) : Source → State
  | .axle seq n => if seq = s.axles.tableSeq then s.updRecord n fun r => { r with alerts := addKind r.alerts k } else s
  | _ => s

/-- The ALERT frame rule: a frame is offered when the entry before the raise was enabled and not pending (R139). -/
def State.offerAlertIf (s : State) (k : AlertKind) (before : AlertEntry) (src : Source) : State :=
  if before.enabled && !before.pending then s.offerAlert (.alert k (bump before.count) src) else s

/-- The train raise count of a kind rises while a session is open (R140). -/
def State.countTrainRaise (s : State) (k : AlertKind) : State :=
  if s.sessionOpen then { s with alert.trainRaises := s.alert.trainRaises.set k.idx (bump s.alert.trainRaises[k.idx]) } else s

/-- The alert unit takes a raise of kind `k` with source `src` (R138). -/
def State.raise (s : State) (k : AlertKind) (src : Source) : State :=
  ((({ s with alert.entries := s.alert.entries.set k.idx ((s.alertEntry k).raised src) } : State).offerAlertIf
    k (s.alertEntry k) src).countTrainRaise k).noteAxleAlert k src

/-- A head fault: the head's fault count rises and N5 is raised (R7). -/
def State.headFault (s : State) (h : Head) : State :=
  (s.setHead h { s.head h with faults := bump (s.head h).faults }).raise .n5 (.head s.session.seq h)

end Sys2Proof.Machine
end

