-- ==== Sys2Proof/Machine/Operands.lean ====
section
/-!
DEFINITION. Reading what arrives: little-endian fields, the CRC-16 of R177, station frames (Table 11.1) and upstream
node frames (Tables 11.4 and 11.5, R178) with the checks of R63.
-/

namespace Sys2Proof.Machine

/-! ## Fields: least significant byte first -/

/-- The byte at offset `i`. -/
def byteAt (l : List Byte) (i : Nat) : Byte := l.getD i 0

def u8 (l : List Byte) (i : Nat) : Nat := (byteAt l i).toNat

def half (l : List Byte) (i : Nat) : Half := byteAt l (i + 1) ++ byteAt l i

def u16 (l : List Byte) (i : Nat) : Nat := (half l i).toNat

def word (l : List Byte) (i : Nat) : Time := half l (i + 2) ++ half l i

/-! ## CRC-16 (R177) -/

/-- One bit of the CRC register's shift by the polynomial 1021h. -/
def crcBit (c : Half) : Half := if c.msb then (c <<< 1) ^^^ 0x1021#16 else c <<< 1

/-- One byte taken into the CRC register, most significant bit first. -/
def crcByte (c : Half) (b : Byte) : Half :=
  crcBit (crcBit (crcBit (crcBit (crcBit (crcBit (crcBit (crcBit (c ^^^ (b ++ 0#8)))))))))

/-- The CRC-16 of a run of bytes, from FFFFh. -/
def crc16 (l : List Byte) : Half := l.foldl crcByte 0xFFFF#16

/-! ## Station frames -/

/-- A received station frame: kind, tag and payload. -/
structure StationFrame where
  kind : Byte
  tag : Byte
  payload : List Byte
deriving DecidableEq, Repr

/-- A frame on the inbound line, when its byte count agrees with its length field, that field is at most 1024 and its
CRC-16 matches; none when it is discarded (R163, R177). -/
def parseStation (l : List Byte) : Option StationFrame :=
  if l.length < 6 then none
  else if 1024 < u16 l 2 then none
  else if l.length ≠ u16 l 2 + 6 then none
  else if crc16 (l.take (u16 l 2 + 4)) ≠ half l (u16 l 2 + 4) then none
  else some ⟨byteAt l 0, byteAt l 1, (l.drop 4).take (u16 l 2)⟩

/-! ## Upstream node frames -/

/-- The contents of an upstream frame (Table 11.5). -/
inductive UpBody where
  /-- First sample time, and for each local channel its n samples in time order. -/
  | samples (first : Time) (channels : List (List Half))
  | identAnswer (type : NodeType) (roles : List Role)
  | pollAnswer
  | statusAnswer (faults : List FaultEntry)
  | itemAnswer (accept : Bool) (value : Half)
deriving DecidableEq, Repr

/-- An accepted upstream frame: its sender, its SRQ flag and its contents. -/
structure UpFrame where
  node : NodeAddr
  srq : Bool
  body : UpBody
deriving DecidableEq, Repr

/-- The role codes of an IDENT ANSWER. -/
def roleOf (b : Byte) : Option Role :=
  match b.toNat with
  | 0 => some .spare
  | 1 => some .bearing1
  | 2 => some .bearing2
  | 3 => some .ambient
  | _ => none

/-- The fault kind codes of a STATUS ANSWER. -/
def faultKindOf (b : Byte) : Option FaultKind :=
  match b.toNat with
  | 1 => some .openCircuit
  | 2 => some .overrange
  | 3 => some .shutterStuck
  | 4 => some .heaterFail
  | 5 => some .supplyLow
  | _ => none

/-- `n` fault entries from offset `i`; none when a kind is outside its codes. The channel byte is a local channel or FFh for
NODE (Table 11.5); that an entry with a channel byte of 8 to 254 is accepted with that byte as its channel is the model's
choice (assumption 34). -/
def readFaults (p : List Byte) : Nat → Nat → Option (List FaultEntry)
  | 0, _ => some []
  | n + 1, i =>
    match faultKindOf (byteAt p (i + 1)), readFaults p n (i + 2) with
    | some k, some l => some (⟨if byteAt p i = 0xFF#8 then none else some (u8 p i), k⟩ :: l)
    | _, _ => none

/-- `n` consecutive samples of a channel block at offset `i`: two to a 32-bit word, the earlier in the low half, so
that they stand as consecutive halves (R178). -/
def readHalves (p : List Byte) : Nat → Nat → List Half
  | 0, _ => []
  | n + 1, i => half p i :: readHalves p n (i + 2)

/-- `c` channel blocks of `n` samples from offset `i`; each block takes ceil(n / 2) words (R178). -/
def readChannels (p : List Byte) (n : Nat) : Nat → Nat → List (List Half)
  | 0, _ => []
  | c + 1, i => readHalves p n i :: readChannels p n c (i + (n + 1) / 2 * 4)

/-- The contents of a payload by its kind, when length and enumerated fields pass (R63, R178). A downstream kind of Table
4.3 on the upstream line has no consumer and is discarded like an unknown kind: the model's choice (assumption 30). -/
def parseUpBody (kind : Byte) (p : List Byte) : Option UpBody :=
  match kind.toNat with
  | 0x81 =>
    let n := u8 p 4
    let c := u8 p 5
    if p.length < 6 ∨ n < 1 ∨ 8 < n ∨ (c ≠ 4 ∧ c ≠ 8) ∨ p.length ≠ 6 + c * ((n + 1) / 2) * 4 then none
    else some (.samples (word p 0) (readChannels p n c 6))
  | 0x82 =>
    if p.length ≠ 5 then none
    else match u8 p 0, roleOf (byteAt p 1), roleOf (byteAt p 2), roleOf (byteAt p 3), roleOf (byteAt p 4) with
      | 1, some .spare, some .spare, some .spare, some .spare => some (.identAnswer .load [])
      | 2, some a, some b, some c, some d => some (.identAnswer .thermal [a, b, c, d])
      | _, _, _, _, _ => none
  | 0x83 => if p.length ≠ 0 then none else some .pollAnswer
  | 0x84 =>
    if p.length < 1 ∨ 8 < u8 p 0 ∨ p.length ≠ 1 + 2 * u8 p 0 then none
    else (readFaults p (u8 p 0) 1).map .statusAnswer
  | 0x85 =>
    if p.length ≠ 3 then none
    else match u8 p 0 with
      | 0 => some (.itemAnswer true (half p 1))
      | 1 => some (.itemAnswer false (half p 1))
      | _ => none
  | _ => none

/-- An upstream frame that passes every check of R63; none when it is discarded. -/
def parseUp (l : List Byte) : Option UpFrame :=
  if l.length < 6 then none
  else if l.length ≠ u8 l 3 + 6 then none
  else if crc16 (l.take (u8 l 3 + 4)) ≠ half l (u8 l 3 + 4) then none
  else if h : 1 ≤ u8 l 1 ∧ u8 l 1 ≤ 6 then
    match parseUpBody (byteAt l 0) ((l.drop 4).take (u8 l 3)) with
    | some b => some ⟨⟨u8 l 1 - 1, by omega⟩, (byteAt l 2).getLsbD 0, b⟩
    | none => none
  else none

end Sys2Proof.Machine
end

