-- ==== Sys2Proof/Machine/Formats.lean ====
section
/-!
DEFINITION. What leaves the part, byte for byte (chapter 11): table entries, report and result records, outbound
station frames with their CRC, and downstream node frames.
-/

namespace Sys2Proof.Machine

/-! ## Fields -/

def le1 (n : Nat) : List Byte := [BitVec.ofNat 8 n]

def le2 (n : Nat) : List Byte := [BitVec.ofNat 8 n, BitVec.ofNat 8 (n / 256)]

def le4 (n : Nat) : List Byte := le2 n ++ le2 (n / 65536)

def leHalf (h : Half) : List Byte := le2 h.toNat

def leTime (t : Time) : List Byte := le4 t.toNat

def leInt (v : Int) : List Byte := leHalf (BitVec.ofInt 16 v)

def yes (b : Bool) : List Byte := le1 (if b then 1 else 0)

/-- An item that may be none: a presence byte, then the item (R177). -/
def optional {α : Type} (f : α → List Byte) : Option α → List Byte
  | none => le1 0
  | some x => le1 1 ++ f x

/-- A list cut or filled with 00h to `n` bytes. -/
def fillTo (n : Nat) (l : List Byte) : List Byte := (l ++ List.replicate n 0).take n

/-- A byte of flags, bit 0 first. -/
def bits : List Bool → Nat
  | [] => 0
  | b :: l => (if b then 1 else 0) + 2 * bits l

/-! ## Codes -/

def AlertKind.code : AlertKind → Nat
  | .s1 => 0x11 | .s2 => 0x12 | .s3 => 0x13 | .s4 => 0x14 | .s5 => 0x15 | .s6 => 0x16 | .s7 => 0x17
  | .t1 => 0x21 | .t2 => 0x22 | .t3 => 0x23 | .t4 => 0x24 | .t5 => 0x25 | .t6 => 0x26 | .t7 => 0x27 | .t8 => 0x28
  | .n1 => 0x31 | .n2 => 0x32 | .n3 => 0x33 | .n4 => 0x34 | .n5 => 0x35 | .n6 => 0x36

def Absence.code : Absence → Nat
  | .noChannel => 1 | .speedRange => 2 | .stopInZone => 3 | .stale => 4 | .short => 5 | .clipped => 6
  | .headDisagree => 7 | .notSettled => 8 | .noAmbient => 9

def Status.code : Status → Nat
  | .ok => 0 | .unknownCommand => 1 | .badLength => 2 | .range => 3 | .notReady => 4 | .trainActive => 5 | .busy => 6
  | .queueFull => 7 | .noTrain => 8 | .empty => 9 | .inReadout => 10

def Closure.code : Closure → Nat
  | .normal => 0 | .withdrawn => 1 | .abandoned => 2 | .forced => 3

def Section.code : Section → Nat
  | .header => 0 | .axles => 1 | .vehicles => 2

def SlotState.code : SlotState → Nat
  | .empty => 0 | .held => 1 | .released => 2

def SessionState.code : SessionState → Nat
  | .notReady => 0 | .standby => 1 | .idle => 2 | .armed => 3 | .inTrain => 4 | .stopped => 5 | .clearing => 6
  | .closing => 7

def Power.code : Power → Nat
  | .active => 0 | .standby => 1

def Direction.code : Direction → Nat
  | .forward => 0 | .reverse => 1

def WakeCause.code : WakeCause → Nat
  | .powerOn => 0 | .approach1 => 1 | .approach2 => 2 | .headEdge => 3 | .stationWake => 4

def SettleState.code : SettleState → Nat
  | .waiting => 0 | .settling => 1 | .settled => 2

def headCode : Head → Nat
  | .a => 0 | .b => 1

def NodeStatus.code : NodeStatus → Nat
  | .absent => 0 | .online => 1 | .silent => 2 | .fault => 3

def NodeType.code : NodeType → Nat
  | .load => 0 | .thermal => 1

/-- A role in a reply: from 0 in the order Table 4.1 lists them (R177); Table 11.5's codes are those of a node's own
frame (`roleOf`). -/
def Role.code : Role → Nat
  | .bearing1 => 0 | .bearing2 => 1 | .ambient => 2 | .spare => 3

/-- A fault kind in a reply: from 0 in the order Table 4.5 lists them (R177); Table 11.5's codes are those of a node's own
frame (`faultKindOf`). -/
def FaultKind.code : FaultKind → Nat
  | .openCircuit => 0 | .overrange => 1 | .shutterStuck => 2 | .heaterFail => 3 | .supplyLow => 4

def Position.code : Position → Nat
  | .beforeEntry => 0 | .between => 1 | .beyondExit => 2

def MeasStatus.code : MeasStatus → Nat
  | .none => 0 | .inFlight => 1 | .done => 2

def CameraOutcome.code : CameraOutcome → Nat
  | .fired => 1 | .late => 2 | .missed => 3

def GateAction.code : GateAction → Nat
  | .forcedLow => 0 | .activeLow => 1 | .activeHigh => 2 | .forcedHigh => 3

def G3Source.code : G3Source → Nat
  | .none => 0 | .sessionOpen => 1 | .anySPending => 2 | .exitPulse => 3

def ChannelKind.code : ChannelKind → Nat
  | .load => 0 | .bearing => 1 | .ambient => 2

def ForwardMode.code : ForwardMode → Nat
  | .never => 0 | .session => 1 | .always => 2 | .decimate => 3

/-! ## Records (R179, Tables 11.9 to 11.11) -/

def Marks.byte (m : Marks) : Nat := bits [m.fewBays, m.unsteady, m.drift, m.peakClipped, false, m.coilBased]

/-- The 4-byte quantity of R179. -/
def Quantity.bytes : Quantity → List Byte
  | .unformed => le2 0 ++ le1 0xFF ++ le1 0
  | .absent r => le2 0 ++ le1 r.code ++ le1 0
  | .present v m => leInt v ++ le1 0 ++ le1 m.byte

/-- A time or interval that may be unformed: 0 then (R179). -/
def timeOrZero (t : Option Time) : List Byte := leTime (t.getD 0)

def kindCodes (n : Nat) (l : List AlertKind) : List Byte := fillTo n (l.flatMap fun k => le1 k.code)

/-- The axle record, 108 bytes (Table 11.9). -/
def AxleRecord.bytes (r : AxleRecord) : List Byte :=
  le2 r.ordinal ++ le1 r.position.code ++ le1 r.passCount ++ le1 r.status.code ++
  le1 (bits [r.stopFlag, r.headDisagree, r.unsteady, r.exitTime.isSome]) ++
  le1 (match r.camera with
    | some c => c.code
    | none => 0) ++ le1 r.alerts.length ++
  leTime r.entryTime ++ timeOrZero r.exitTime ++ leTime r.entryInterval ++ timeOrZero r.exitInterval ++
  r.entrySpeed.bytes ++ r.exitSpeed.bytes ++ r.speed.bytes ++ r.spacing.bytes ++
  le2 (r.vehicle.getD 0) ++ kindCodes 7 r.alerts ++ le1 0 ++
  le1 r.load.r1.bayCount ++ le1 r.load.r2.bayCount ++
  r.load.r1.static.bytes ++ r.load.r1.peak.bytes ++ r.load.r1.increment.bytes ++ r.load.r1.ratio.bytes ++
  r.load.r2.static.bytes ++ r.load.r2.peak.bytes ++ r.load.r2.increment.bytes ++ r.load.r2.ratio.bytes ++
  r.axleLoad.bytes ++ r.bearing.r1.peak.bytes ++ r.bearing.r1.rise.bytes ++ r.bearing.r2.peak.bytes ++
  r.bearing.r2.rise.bytes ++ r.sideDiff.bytes

/-- The vehicle record, 24 bytes (Table 11.10). -/
def Vehicle.bytes (v : Vehicle) : List Byte :=
  le2 v.index ++ le2 v.first ++ le1 (v.cls.getD 0) ++ le1 (v.pattern.getD 255) ++ le1 v.count ++ le1 v.set ++
  le1 (if v.judged then 1 else 0) ++ le1 (bits [v.atClose, v.isPartial, v.unjudged, v.total.isSome]) ++
  le1 (match v.total with
    | some t => t.2
    | none => 0) ++ le1 v.verdicts.length ++
  le4 (match v.total with
    | some t => t.1.toNat
    | none => 0) ++ kindCodes 8 v.verdicts

/-- The ambient reference as a quantity (R179). -/
def Ambient.quantity (a : Ambient) : Quantity :=
  match a.value with
  | some v => .present v {}
  | none => .absent .noAmbient

/-- The report header, 84 bytes (Table 11.11). -/
def ReportHeader.bytes (h : ReportHeader) : List Byte :=
  leHalf h.record.seq ++ le2 h.siteId ++
  le1 (match h.record.direction with
    | none => 0
    | some .forward => 1
    | some .reverse => 2) ++
  le1 (match h.record.closure with
    | some c => c.code
    | none => 0) ++
  le2 (bits [h.record.noApproach, h.record.incompleteStart, h.record.notSettledStart, h.record.countMismatch,
    h.record.outlierNotTested.r1, h.record.outlierNotTested.r2, h.truncated, h.record.firstCrossing.isSome,
    h.record.lastCrossing.isSome]) ++
  timeOrZero h.record.openTime ++ timeOrZero h.record.firstCrossing ++ timeOrZero h.record.lastCrossing ++
  timeOrZero h.record.closeStart ++
  le2 h.entryCount ++ le2 h.exitCount ++ le2 h.highWater ++ le2 h.mismatch ++ le2 h.axleCount ++ le2 h.vehicleCount ++
  h.ambient.quantity.bytes ++ le2 h.ambient.count ++ h.summary.toList.flatMap le2

def ReportRecord.bytes : ReportRecord → List Byte
  | .header h => h.bytes
  | .axle r => r.bytes
  | .vehicle v => v.bytes

/-! ## Table entries (Tables 11.7 and 11.8) -/

/-- A position or bay start; none is FFFFh. -/
def position (p : Option Nat) : List Byte := le2 (p.getD 65535)

def SiteConstants.bytes (c : SiteConstants) : List Byte :=
  le2 c.siteId ++ le2 c.lab ++ le2 c.coilSpacing ++ le2 c.minPulse ++ le1 c.standstill ++ le1 c.clear ++
  le1 c.abandon ++ le1 c.settle ++ le2 c.arm ++ le2 c.idle ++ le2 c.bayLength ++
  c.bayStart.r1.toList.flatMap position ++ c.bayStart.r2.toList.flatMap position ++ le1 c.core ++ le1 c.halfWindow ++
  le2 c.minSpeed ++ le2 c.maxSpeed ++ le2 c.impactCritical ++ le2 c.axleLoadCritical ++ position c.scanner.r1 ++
  position c.scanner.r2 ++ le2 c.bearingCritical ++ le2 c.unclassifiedGap ++ (c.gates.toList.flatMap fun g => le1 g.code) ++
  le1 c.g3.code ++ yes c.liveResults ++ position c.camera ++ le2 c.cameraWidth

def Channel.bytes (e : Channel) : List Byte :=
  le1 1 ++ le1 (e.node.val + 1) ++ le1 e.channel ++ le1 e.kind.code ++ le1 e.rail ++ le1 e.bay ++ le1 e.forward.code ++
  le1 e.decimation ++ leInt e.offset ++ le2 e.gain

def SpeedBands.bytes (b : SpeedBands) : List Byte := le2 b.b1 ++ le2 b.b2 ++ le2 b.b3

def Pattern.bytes (p : Pattern) : List Byte :=
  le1 1 ++ le1 p.cls ++ le1 p.n ++ le1 p.set ++ le2 p.tolerance ++ le2 p.gap ++ fillTo 14 (p.spacings.flatMap le2)

def Threshold.bytes (t : Threshold) : List Byte :=
  le1 1 ++ le1 t.imbalance ++ t.impact.toList.flatMap le2 ++ le2 t.ratio ++ le2 t.axleLoad ++ le2 t.rise ++
  le2 t.difference ++ le2 t.outlierMargin

/-! ## Station frames (R177) -/

/-- An alert source, 6 bytes. -/
def sourceBytes : Option Source → List Byte
  | none => [0, 0, 0, 0, 0, 0]
  | some .empty => [1, 0, 0, 0, 0, 0]
  | some (.train q) => le1 2 ++ leHalf q ++ [0, 0, 0]
  | some (.axle q n) => le1 3 ++ leHalf q ++ le2 n ++ [0]
  | some (.vehicle q n) => le1 4 ++ leHalf q ++ le2 n ++ [0]
  | some (.node q k) => le1 5 ++ leHalf q ++ le2 (k.val + 1) ++ [0]
  | some (.head q h) => le1 6 ++ leHalf q ++ le2 (headCode h + 1) ++ [0]

/-- The tag of an outbound frame: 0 but for a REPLY. -/
def OutFrame.tag : OutFrame → Byte
  | .reply r => r.tag
  | _ => 0

/-- The frame kind codes of Table 11.2. -/
def OutFrame.kind : OutFrame → Byte
  | .reply _ => 0x81
  | .alert .. => 0x82
  | .reportData .. => 0x83
  | .axleResult .. => 0x84
  | .vehicleResult .. => 0x85
  | .trainEnd .. => 0x86
  | .forward .. => 0x87

def OutFrame.payload : OutFrame → List Byte
  | .reply r => r.code :: le1 r.status.code ++ r.results
  | .alert k n src => le1 k.code ++ le2 n ++ sourceBytes (some src)
  | .reportData slot part q first rs =>
    le1 slot.val ++ le1 part.code ++ leHalf q ++ le2 first ++ le1 rs.length ++ le1 0 ++ rs.flatMap ReportRecord.bytes
  | .axleResult q r => leHalf q ++ r.bytes
  | .vehicleResult q v => leHalf q ++ v.bytes
  | .trainEnd q cl n x a v slot =>
    leHalf q ++ le1 (match cl with
      | some c => c.code
      | none => 0) ++ le2 n ++ le2 x ++ le2 a ++ le2 v ++ le2 slot.val
  | .forward k f => le1 (k.val + 1) ++ f

/-- A frame with its check sequence, low byte first (R177). -/
def withCrc (l : List Byte) : List Byte := l ++ leHalf (crc16 l)

/-- The bytes of a station frame on the line (Table 11.1). -/
def OutFrame.bytes (f : OutFrame) : List Byte := withCrc ([f.kind, f.tag] ++ le2 f.payload.length ++ f.payload)

/-! ## Downstream node frames (Tables 11.4 and 11.5) -/

def downFrame (kind : Nat) (dest : Option NodeAddr) (payload : List Byte) : List Byte :=
  withCrc (le1 kind ++ le1 (match dest with
    | some k => k.val + 1
    | none => 0) ++ le1 0 ++ le1 payload.length ++ payload)

def DownFrame.bytes : DownFrame → List Byte
  | .timeMark t => downFrame 0x01 none (leTime t)
  | .halt d => downFrame 0x02 d []
  | .resume => downFrame 0x03 none []
  | .ident k => downFrame 0x04 (some k) []
  | .poll => downFrame 0x05 none []
  | .statusRequest k => downFrame 0x06 (some k) []
  | .itemRequest k reg w v => downFrame 0x07 (some k) ([reg] ++ yes w ++ leHalf v)

end Sys2Proof.Machine
end

