-- ==== Sys2Proof/Machine/Flags.lean ====
section
/-!
DEFINITION. Flags and lines: the presence, value and flags of a quantity (introduction, R96, R113), and the output
lines the part drives from its state, which are computed and never stored: the gate conditions and lines (R145 to
R148) and the ALERT line (R144).
-/

namespace Sys2Proof.Machine

/-! ## Quantities -/

/-- The value of a present quantity. -/
def Quantity.value? : Quantity → Option Int
  | .present v _ => some v
  | _ => none

def Quantity.isPresent (q : Quantity) : Bool := q.value?.isSome

/-- The flags of a quantity; an absent or unformed quantity carries none (R96, R113). -/
def Quantity.marks : Quantity → Marks
  | .present _ m => m
  | _ => {}

/-- The reason of an absent quantity, and `d` for any other. -/
def Quantity.reasonOr (d : Absence) : Quantity → Absence
  | .absent r => r
  | _ => d

/-- Whether a quantity is present with a value at or above a limit. -/
def Quantity.atLeast (q : Quantity) (limit : Nat) : Bool :=
  match q with
  | .present v _ => decide ((limit : Int) ≤ v)
  | _ => false

/-! ## Output lines -/

/-- The ALERT line: high while a kind is pending and enabled (R144). -/
def State.alertLine (s : State) : Bool := AlertKind.all.any fun k => (s.alertEntry k).pending && (s.alertEntry k).enabled

/-- The G0 condition, the scanner shutter (R146). -/
def State.g0Condition (s : State) : Bool :=
  match s.session.state with
  | .armed | .inTrain | .stopped | .clearing => true
  | .notReady | .standby | .idle | .closing => false

/-- The G1 condition: a camera pulse is in output (R150). -/
def State.g1Condition (s : State) : Bool := s.gate.pulse.isSome

/-- The G2 condition, the train stop request: S1, S2 or S3 is pending (R148). -/
def State.g2Condition (s : State) : Bool :=
  (s.alertEntry .s1).pending || (s.alertEntry .s2).pending || (s.alertEntry .s3).pending

/-- The G3 condition, by the G3 source of the active Site Constants (R147). -/
def State.g3Condition (s : State) : Bool :=
  match s.site with
  | none => false
  | some sc =>
    match sc.g3 with
    | .none => false
    | .sessionOpen => s.sessionOpen
    | .anySPending => [AlertKind.s1, .s2, .s3, .s4, .s5, .s6, .s7].any fun k => (s.alertEntry k).pending
    | .exitPulse => s.gate.exitPulse.isSome

def State.gateCondition (s : State) (g : Fin 4) : Bool :=
  match g with
  | 0 => s.g0Condition
  | 1 => s.g1Condition
  | 2 => s.g2Condition
  | 3 => s.g3Condition

/-- The level an action gives for a condition (R145); `true` is high. -/
def GateAction.level : GateAction → Bool → Bool
  | .forcedLow, _ => false
  | .activeLow, c => !c
  | .activeHigh, c => c
  | .forcedHigh, _ => true

/-- A gate line: low until Site Constants is first activated, then by action and condition (R145). -/
def State.gateLine (s : State) (g : Fin 4) : Bool :=
  match s.site with
  | none => false
  | some sc => (sc.gates[g]).level (s.gateCondition g)

end Sys2Proof.Machine
end

