-- ==== Sys2Proof/Machine/Samples.lean ====
section
/-!
DEFINITION. Channel usability (R81), the sample rings and window reads (R78 to R82), autozero (R99 to R102) and the
forwarding of SAMPLES frames (R168).
-/

namespace Sys2Proof.Machine

def allChannels : List ChanIdx := List.finRange 24

def ringCapacity : Nat := 8192
def samplePeriod : Nat := 250
/-- The age at which a quiet ring is emptied and a record becomes overdue [µs]: 30 min (R53, R80). -/
def halfHour : Nat := 1800000000

/-! ## Usability (R81) -/

/-- The entry's kind matches its node (R81). -/
def kindMatches (e : Channel) (n : NodeEntry) : Bool :=
  match e.kind, n.type with
  | .load, some .load => decide (e.channel < 8)
  | .bearing, some .thermal =>
    decide (n.roles[e.channel]? = some (if e.rail = 1 then Role.bearing1 else Role.bearing2))
  | .ambient, some .thermal => decide (n.roles[e.channel]? = some Role.ambient)
  | _, _ => false

/-- The first condition of Table 4.8 that fails; none when the index is usable. -/
def State.unusable (s : State) (i : ChanIdx) : Option Unusable :=
  match s.channel? i with
  | none => some .notValid
  | some e =>
    let n := s.node.nodes[e.node]
    if n.status = .absent then some .nodeAbsent
    else if n.status = .silent then some .nodeSilent
    else if !kindMatches e n then some .kindMismatch
    else if n.faults.any fun f => decide (f.channel = none ∨ f.channel = some e.channel) then some .channelFault
    else none

def State.usable (s : State) (i : ChanIdx) : Bool := (s.unusable i).isNone

/-! ## Rings and window reads (R79, R82) -/

/-- A sample is clipped when its raw value is 32767 or -32768. -/
def clippedRaw (r : Half) : Bool := decide (r = 0x7FFF#16 ∨ r = 0x8000#16)

/-- The sample a ring stores for a raw value of time `t`, if it stores it (R79). -/
def ringSample (ring : List Sample) (t : Time) (r : Half) : Option Sample :=
  match ring.getLast? with
  | none => some ⟨t, r, false⟩
  | some n =>
    if t = n.time + micros samplePeriod then some ⟨t, r, false⟩
    else if older n.time t then some ⟨t, r, true⟩
    else none

/-- A ring with a sample stored as its newest; the oldest goes when the ring holds 8192 (R79). -/
def ringPush (ring : List Sample) (x : Sample) : List Sample :=
  (if ring.length < ringCapacity then ring else ring.drop 1) ++ [x]

/-- A time belongs to the window [a, b) (R82). -/
def inWindow (a b t : Time) : Bool := !older t a && older t b

/-- The answer of a window read from the ring as it stands (R82). -/
def readWindow (ring : List Sample) (a b : Time) : WindowAnswer :=
  match ring with
  | [] => .samples [] none
  | o :: _ =>
    if older a o.time then .stale
    else .samples (ring.filter fun x => inWindow a b x.time) (ring.getLast?.map (·.time))

/-- A ring has reached a window with end `b`: its newest time is not older than `b` less 250 µs (R86, R111). -/
def ringReached (ring : List Sample) (b : Time) : Bool :=
  match ring.getLast? with
  | none => false
  | some n => !older n.time (b - micros samplePeriod)

/-- A window read of index `i`, kept with usability and DRIFT mark of the moment (R82, R86). -/
def State.readAnswer (s : State) (i : ChanIdx) (a b : Time) : ReadAnswer :=
  { unusable := s.unusable i
    drift := match s.load.zero[i] with
      | some z => z.drift
      | none => false
    window := readWindow s.rings[i] a b }

/-- A ring emptied (R80). -/
def State.emptyRing (s : State) (i : ChanIdx) : State := { s with rings := s.rings.set i [] }

/-- RING_EXPIRY (R80): a ring whose newest time is 30 min old is emptied. -/
def execRingExpiry (dt : Time) (i : ChanIdx) (s : State) : Host.Outcome State Fault Refusal :=
  match (s.advance dt).rings[i].getLast? with
  | some n =>
    if reached (s.advance dt).clock (n.time + micros halfHour) then .next ((s.advance dt).emptyRing i)
    else .next (s.advance dt)
  | none => .next (s.advance dt)

/-! ## Autozero (R99 to R102) -/

def blockLength : Nat := 256
/-- The greatest distance of a tracked offset from the loaded offset (R99). -/
def zeroSpan : Int := 512

/-- Autozero runs while the power state is ACTIVE and no session is open (R102). -/
def State.autozeroRunning (s : State) : Bool := decide (s.session.power = .active) && !s.sessionOpen

def ZeroTrack.emptied (z : ZeroTrack) : ZeroTrack := { z with count := 0, sum := 0 }

/-- The offset a block moves to before the clamp: u of R101. -/
def ZeroTrack.target (z : ZeroTrack) : Int := z.offset + roundDiv (roundDiv z.sum blockLength - z.offset) 8

/-- The end of a block of a channel with loaded offset `o` (R101). -/
def ZeroTrack.blockEnd (z : ZeroTrack) (o : Int) : ZeroTrack :=
  { offset := clamp (o - zeroSpan) (o + zeroSpan) z.target
    drift := decide (clamp (o - zeroSpan) (o + zeroSpan) z.target ≠ z.target) }

/-- The tracking state of an index after its entry is activated or a site reset is taken (R99). -/
def freshZero : Entry Channel → Option ZeroTrack
  | .valid e => if e.kind = .load then some { offset := e.offset } else none
  | _ => none

/-- Every block accumulator emptied (R102). -/
def State.emptyBlocks (s : State) : State :=
  { s with load.zero := Vec.map (fun z => z.map ZeroTrack.emptied) s.load.zero }

def State.setZero (s : State) (i : ChanIdx) (z : ZeroTrack) : State :=
  { s with load.zero := s.load.zero.set i (some z) }

/-- A block of index `i` ends: the tracked offset moves, DRIFT follows the clamp, and N4 is raised when the clamp
first engages (R101). -/
def State.endBlock (s : State) (i : ChanIdx) : State :=
  match s.load.zero[i], s.channel? i with
  | some z, some e =>
    let z' := z.blockEnd e.offset
    if z'.drift && !z.drift then (s.setZero i z').raise .n4 (.node s.session.seq e.node) else s.setZero i z'
  | _, _ => s

/-- A stored sample offered to the block accumulator of its index (R100). A block that already holds 256 samples ends
before the sample is taken (R101). -/
def State.offerZero (s : State) (i : ChanIdx) (x : Sample) : State :=
  if !s.autozeroRunning then s
  else
    let s := match s.load.zero[i] with
      | some z => if blockLength ≤ z.count then s.endBlock i else s
      | none => s
    match s.load.zero[i] with
    | none => s
    | some z =>
      if !s.usable i || clippedRaw x.raw then s.setZero i z.emptied
      else if x.gap then s.setZero i { z with count := 1, sum := x.raw.toInt }
      else s.setZero i { z with count := z.count + 1, sum := z.sum + x.raw.toInt }

/-- AUTOZERO_BLOCK_END (R101). -/
def execAutozeroBlockEnd (dt : Time) (i : ChanIdx) (s : State) : Host.Outcome State Fault Refusal :=
  match (s.advance dt).load.zero[i] with
  | some z => if blockLength ≤ z.count then .next ((s.advance dt).endBlock i) else .next (s.advance dt)
  | none => .next (s.advance dt)

/-! ## Storing a SAMPLES frame (R78, R79) -/

/-- The valid entry index that names a node and a local channel (R78). -/
def State.route (s : State) (k : NodeAddr) (ch : Nat) : Option ChanIdx :=
  allChannels.find? fun i =>
    match s.channel? i with
    | some e => decide (e.node = k ∧ e.channel = ch)
    | none => false

/-- One sample offered to the ring of an index, and to its autozero if it was stored (R79, R100). -/
def State.storeSample (s : State) (i : ChanIdx) (t : Time) (r : Half) : State :=
  match ringSample s.rings[i] t r with
  | none => s
  | some x => ({ s with rings := s.rings.set i (ringPush s.rings[i] x) } : State).offerZero i x

/-- The samples of one channel, in time order from `t` (R78). -/
def State.storeRun (s : State) (i : ChanIdx) (t : Time) : List Half → State
  | [] => s
  | r :: l => (s.storeSample i t r).storeRun i (t + micros samplePeriod) l

/-- The samples of the channels of a frame from node `k`, from local channel `ch` on (R78). -/
def State.storeChannels (s : State) (k : NodeAddr) (first : Time) (ch : Nat) : List (List Half) → State
  | [] => s
  | l :: ls =>
    match s.route k ch with
    | some i => (s.storeRun i first l).storeChannels k first (ch + 1) ls
    | none => s.storeChannels k first (ch + 1) ls

/-- The channel count of a node: 8, 4 or 0 by its type (Table 4.4). -/
def NodeEntry.channelCount (n : NodeEntry) : Nat :=
  match n.type with
  | some .load => 8
  | some .thermal => 4
  | none => 0

/-- The samples of an accepted frame are stored unless the node is ABSENT, the power state is STANDBY or the frame's
channel count differs from the node's (R78, R178). -/
def State.storeFrame (s : State) (k : NodeAddr) (first : Time) (chs : List (List Half)) : State :=
  if s.node.nodes[k].status = .absent ∨ s.session.power = .standby ∨ chs.length ≠ s.node.nodes[k].channelCount then s
  else s.storeChannels k first 0 chs

/-! ## Forwarding (R168) -/

/-- The forward vote of an entry and its decimation count after it (R168). -/
def forwardVote (isOpen : Bool) (e : Channel) (n : Nat) : Bool × Nat :=
  match e.forward with
  | .never => (false, n)
  | .session => (isOpen, n)
  | .always => (true, n)
  | .decimate => if isOpen then (if e.decimation ≤ n + 1 then (true, 0) else (false, n + 1)) else (false, n)

/-- The vote of an index on a frame from node `k`. -/
def State.voteOf (s : State) (k : NodeAddr) (i : ChanIdx) : Bool × Nat :=
  match s.channel? i with
  | some e => if e.node = k then forwardVote s.sessionOpen e s.port.decimation[i] else (false, s.port.decimation[i])
  | none => (false, s.port.decimation[i])

/-- A SAMPLES frame handed for forwarding: every entry of its node votes, and one yes forwards it once (R168). -/
def State.forwardFrame (s : State) (k : NodeAddr) (frame : List Byte) : State :=
  if s.node.nodes[k].status = .absent then s
  else
    let s' : State := { s with port.decimation := Vector.ofFn fun i => (s.voteOf k i).2 }
    if allChannels.any fun i => (s.voteOf k i).1 then s'.offerForward (.forward k frame) else s'

end Sys2Proof.Machine
end

