-- ==== Sys2Proof/Machine/Timers.lean ====
section
/-!
DEFINITION. The lengths of the six session timers (R24, Table 2.2) and their starting.
-/

namespace Sys2Proof.Machine

/-- A Site Constants field in force, and `d` until the first activation (Table 2.2). -/
def State.constant (s : State) (f : SiteConstants → Nat) (d : Nat) : Nat :=
  match s.site with
  | some sc => f sc
  | none => d

/-- A timer started now with a length in seconds (R24). -/
def State.timer (s : State) (n : Nat) : Option Timer := some ⟨s.clock, seconds n⟩

def State.armTimer (s : State) : Option Timer := s.timer (s.constant (·.arm) 180)
def State.standstillTimer (s : State) : Option Timer := s.timer (s.constant (·.standstill) 10)
def State.clearTimer (s : State) : Option Timer := s.timer (s.constant (·.clear) 8)
def State.abandonTimer (s : State) : Option Timer := s.timer (s.constant (·.abandon) 20 * 60)
def State.idleTimer (s : State) : Option Timer := s.timer (s.constant (·.idle) 300)
def State.settleTimer (s : State) : Option Timer := s.timer (s.constant (·.settle) 8)

/-- The five session timers stopped; the settle timer is none of them (R24, R42). -/
def SessionCtl.stopTimers (c : SessionCtl) : SessionCtl :=
  { c with arm := none, standstill := none, clear := none, abandon := none, idle := none }

/-- IDLE is entered and the idle timer starts (Table 2.3). -/
def State.enterIdle (s : State) : State :=
  { s with session := { s.session.stopTimers with state := .idle, idle := s.idleTimer } }

end Sys2Proof.Machine
end

