-- ==== Sys2Proof/Machine/Vehicles.lean ====
section
/-!
DEFINITION. The grouping and judgement unit (chapter 7): pattern tests, segmentation runs, vehicle formation and
judgement; and the outlier test of close step 3 (R116).
-/

namespace Sys2Proof.Machine

/-! ## Spacings as segmentation sees them (section 7.3) -/

inductive SpacingView where
  | noRecord | unknown | absent | known (v : Int)
deriving DecidableEq, Repr

def State.spacingView (s : State) (k : Nat) : SpacingView :=
  match s.record? k with
  | none => .noRecord
  | some r =>
    match r.spacing with
    | .unformed => .unknown
    | .absent _ => .absent
    | .present v _ => .known v

/-- The answer of a pattern test (R124). -/
inductive Answer where
  | hit | no | wait
deriving DecidableEq, Repr

/-- The spacing of an inner axle against its nominal value: an answer, or none to go on (R124; R128 when `final`). -/
def innerAnswer (final : Bool) (tolerance nominal : Nat) : SpacingView → Option Answer
  | .noRecord => some (if final then .no else .wait)
  | .unknown => some (if final then .no else .wait)
  | .absent => some .no
  | .known v => if tolerance < (v - nominal).natAbs then some .no else none

/-- The coupling spacing against the minimum coupling gap (R124; R128 when `final`). -/
def couplingAnswer (final : Bool) (gap : Nat) : SpacingView → Answer
  | .noRecord => if final then .hit else .wait
  | .unknown => if final then .no else .wait
  | .absent => .no
  | .known v => if v < gap then .no else .hit

/-- A pattern's spacings tested in ascending ordinal from axle `k`, then its coupling spacing (R124). -/
def State.testFrom (s : State) (final : Bool) (p : Pattern) : Nat → List Nat → Answer
  | k, [] => couplingAnswer final p.gap (s.spacingView k)
  | k, nominal :: l =>
    match innerAnswer final p.tolerance nominal (s.spacingView k) with
    | some a => a
    | none => s.testFrom final p (k + 1) l

/-- A pattern tested at cursor `c` (R124). -/
def State.testPattern (s : State) (final : Bool) (c : Nat) (p : Pattern) : Answer := s.testFrom final p (c + 1) p.spacings

/-- What a run decides at the cursor. -/
inductive Decision where
  | wait
  | form (cls pattern : Option Nat) (count set : Nat)
deriving DecidableEq, Repr

/-- The first entry from index `j` on whose answer is not NO (R125). -/
def State.tryPatterns (s : State) (final : Bool) (c : Nat) : Nat → List (Entry Pattern) → Option Decision
  | _, [] => none
  | j, .valid p :: l =>
    match s.testPattern final c p with
    | .no => s.tryPatterns final c (j + 1) l
    | .wait => some .wait
    | .hit => some (.form (some p.cls) (some j) p.n p.set)
  | j, _ :: l => s.tryPatterns final c (j + 1) l

/-- The last axle of an unclassified vehicle examined from axle `j` with `n` axles still allowed after it; none is
WAIT (R126; R128 when `final`). -/
def State.unclassifiedLast (s : State) (final : Bool) (gap : Nat) : Nat → Nat → Option Nat
  | 0, j => some j
  | n + 1, j =>
    match s.spacingView (j + 1) with
    | .noRecord => if final then some j else none
    | .unknown => if final then s.unclassifiedLast final gap n (j + 1) else none
    | .absent => s.unclassifiedLast final gap n (j + 1)
    | .known v => if v < gap then s.unclassifiedLast final gap n (j + 1) else some j

/-- The unclassified gap in force; 2500 until Site Constants is first activated (Table 7.1). -/
def State.unclassifiedGap (s : State) : Nat :=
  match s.site with
  | some sc => sc.unclassifiedGap
  | none => 2500

/-- The decision at the cursor (R125, R126). -/
def State.decideVehicle (s : State) (final : Bool) : Decision :=
  match s.tryPatterns final s.group.cursor 0 s.tables.active.patterns.toList with
  | some d => d
  | none =>
    match s.unclassifiedLast final s.unclassifiedGap 7 s.group.cursor with
    | none => .wait
    | some j => .form none none (j + 1 - s.group.cursor) 0

/-! ## Judgement (R129 to R134) -/

/-- The speed band of a speed (R120). -/
def SpeedBands.bandOf (b : SpeedBands) (v : Int) : Fin 4 :=
  if v < b.b1 then 0 else if v < b.b2 then 1 else if v < b.b3 then 2 else 3

/-- The impact test of one rail (R131). -/
def impactTest (th : Threshold) (bands : SpeedBands) (r : AxleRecord) (rail : Rail) : Bool :=
  (match r.speed with
    | .present v _ => (r.load.get rail).increment.atLeast (th.impact[bands.bandOf v])
    | _ => false) || (r.load.get rail).ratio.atLeast th.ratio

/-- The imbalance of two present static loads; none when it is not formed (R132). -/
def imbalance (l r : Quantity) : Option Nat :=
  match l, r with
  | .present x _, .present y _ => if 0 < x + y then some ((x - y).natAbs * 100 / (x + y).toNat) else none
  | _, _ => none

/-- The load test (R132). -/
def loadTest (th : Threshold) (r : AxleRecord) : Bool :=
  r.axleLoad.atLeast th.axleLoad ||
    (match imbalance r.load.r1.static r.load.r2.static with
      | some n => decide (th.imbalance ≤ n)
      | none => false)

/-- The raises of one axle, in the order of R130. -/
def axleRaises (th : Threshold) (bands : SpeedBands) (r : AxleRecord) : List AlertKind :=
  (if impactTest th bands r .r1 then [.s5] else []) ++ (if impactTest th bands r .r2 then [.s5] else []) ++
  (if loadTest th r then [.s6] else []) ++
  (if r.bearing.r1.rise.atLeast th.rise then [.s4] else []) ++
  (if r.bearing.r2.rise.atLeast th.rise then [.s4] else []) ++
  (if r.sideDiff.atLeast th.difference then [.s4] else [])

/-- The quantities of R131 to R133. -/
def testedQuantities (r : AxleRecord) : List Quantity :=
  [r.load.r1.increment, r.load.r1.ratio, r.load.r2.increment, r.load.r2.ratio, r.axleLoad, r.load.r1.static,
   r.load.r2.static, r.bearing.r1.rise, r.bearing.r2.rise, r.sideDiff]

/-- The axle records of a vehicle, in ascending ordinal. -/
def State.vehicleRecords (s : State) (v : Vehicle) : List AxleRecord :=
  s.axles.records.filter fun r => decide (v.first ≤ r.ordinal ∧ r.ordinal < v.first + v.count)

/-- The raises of a list of kinds with one source, taken in order. -/
def State.raiseAll (s : State) (src : Source) : List AlertKind → State
  | [] => s
  | k :: l => (s.raise k src).raiseAll src l

/-- The raises of a vehicle's axles, in ascending ordinal (R130). -/
def State.raiseAxles (s : State) (th : Threshold) (bands : SpeedBands) : List AxleRecord → State
  | [] => s
  | r :: l => (s.raiseAll (.axle s.session.seq r.ordinal) (axleRaises th bands r)).raiseAxles th bands l

/-- The critical kinds that stand in the axle alert list of any of the axles (R134). -/
def criticalKinds (rs : List AxleRecord) : List AlertKind :=
  [AlertKind.s1, .s2, .s3].filter fun k => rs.any fun r => decide (k ∈ r.alerts)

/-- The vehicle record after judgement, from its axle records and its threshold set (R130, R134). -/
def Vehicle.judge (v : Vehicle) (rs : List AxleRecord) (th : Option Threshold) (bands : SpeedBands) : Vehicle :=
  { v with
    judged := true
    total := some (sumInt (rs.filterMap fun r => r.axleLoad.value?), (rs.filterMap fun r => r.axleLoad.value?).length)
    unjudged := th.isNone
    isPartial := th.isSome && rs.any fun r => (testedQuantities r).any fun q => !q.isPresent
    verdicts :=
      ((match th with
        | some th => rs.flatMap (axleRaises th bands)
        | none => []).foldl addKind ((criticalKinds rs).foldl addKind v.verdicts)) }

/-- A vehicle is judged: its raises are made, its record completed and its VEHICLE RESULT offered (R130, R134). -/
def State.judge (s : State) (v : Vehicle) : State :=
  let th := s.threshold? v.set
  let bands := s.tables.active.bands
  let rs := s.vehicleRecords v
  let v' := v.judge rs th bands
  let s := match th with
    | some th => s.raiseAxles th bands rs
    | none => s
  (s.updVehicle v.index fun _ => v').offerResult (.vehicleResult s.session.seq v')

/-- A vehicle is judged when it is FORMED and all its axles are DONE (R129). -/
def State.judgeIfReady (s : State) (index : Nat) : State :=
  match s.vehicle? index with
  | some v => if !v.judged && (s.vehicleRecords v).all fun r => decide (r.status = .done) then s.judge v else s
  | none => s

/-! ## Formation and runs (R123, R127) -/

/-- Forming a vehicle at the cursor (R127). -/
def State.formVehicle (s : State) (atClose : Bool) (cls pattern : Option Nat) (count set : Nat) : State :=
  let index := s.group.vehicles.length + 1
  let c := s.group.cursor
  let s : State :=
    { s with
      group.vehicles := s.group.vehicles ++ [{ index, cls, pattern, first := c, count, set, atClose }]
      group.cursor := c + count
      axles.records := s.axles.records.map fun r =>
        if c ≤ r.ordinal ∧ r.ordinal < c + count then { r with vehicle := some index } else r }
  let s := match cls with
    | none => (s.raise .t6 (.vehicle s.session.seq index)).updVehicle index fun v => { v with verdicts := [.t6] }
    | some _ => s
  s.judgeIfReady index

/-- A segmentation run of at most `n` formations (R123): it ends at WAIT or above the last axle record. -/
def State.segment (final : Bool) : Nat → State → State
  | 0, s => s
  | n + 1, s =>
    if s.axles.records.length < s.group.cursor then s
    else
      match s.decideVehicle final with
      | .wait => s
      | .form cls pattern count set => State.segment final n (s.formVehicle final cls pattern count set)

/-- A whole run: each formation takes at least one axle record, so the records bound their number. -/
def State.runSegmentation (s : State) (final : Bool) : State := State.segment final (s.axles.records.length + 1) s

/-- SEGMENTATION_RUN (R123): one notice is served while a session is open. -/
def execSegmentationRun (dt : Time) (s : State) : Host.Outcome State Fault Refusal :=
  let s := s.advance dt
  if s.group.notices = 0 ∨ s.sessionOpen = false then .next s
  else .next (({ s with group.notices := s.group.notices - 1 } : State).runSegmentation false)

/-- The axle tracker tells the unit that axle `k` is measured: its vehicle is judged if it can be (R129). -/
def State.axleMeasured (s : State) (k : Nat) : State :=
  match (s.record? k).bind (·.vehicle) with
  | some v => s.judgeIfReady v
  | none => s

/-- Every vehicle still FORMED is judged, in ascending index (R129). -/
def State.judgeRest : List Nat → State → State
  | [], s => s
  | i :: l, s =>
    match s.vehicle? i with
    | some v => State.judgeRest l (if v.judged then s else s.judge v)
    | none => State.judgeRest l s

/-- Close step 2: the end-of-train run, then every vehicle still FORMED is judged (R33, R128, R129). -/
def State.closeVehicles (s : State) : State :=
  let s := s.runSegmentation true
  State.judgeRest (s.group.vehicles.map (·.index)) s

/-! ## The outlier test (R116) -/

/-- The threshold set number of an axle: its vehicle's, or 0 in no vehicle (R116). -/
def State.setOfAxle (s : State) (r : AxleRecord) : Nat :=
  match r.vehicle.bind s.vehicle? with
  | some v => v.set
  | none => 0

/-- One axle's rise tested against the train mean (R116). -/
def State.testOutlier (s : State) (mean : Int) (rail : Rail) (r : AxleRecord) : State :=
  match (r.bearing.get rail).rise, s.threshold? (s.setOfAxle r) with
  | .present v _, some th =>
    if mean + th.outlierMargin ≤ v then
      let s := s.raise .s7 (.axle s.session.seq r.ordinal)
      match r.vehicle with
      | some i => s.updVehicle i fun x => { x with verdicts := addKind x.verdicts .s7 }
      | none => s
    else s
  | _, _ => s

def State.testOutliers (mean : Int) (rail : Rail) : List AxleRecord → State → State
  | [], s => s
  | r :: l, s => State.testOutliers mean rail l (s.testOutlier mean rail r)

/-- The outlier test of one rail (R116). -/
def State.outlierRail (s : State) (rail : Rail) : State :=
  let rises := s.axles.records.filterMap fun r => (r.bearing.get rail).rise.value?
  if rises.length < 8 then
    { s with session.record.outlierNotTested := s.session.record.outlierNotTested.set rail true }
  else State.testOutliers (roundDiv (sumInt rises) rises.length) rail s.axles.records s

/-- Close step 3: rail 1, then rail 2 (R116). -/
def State.closeOutliers (s : State) : State := (s.outlierRail .r1).outlierRail .r2

end Sys2Proof.Machine
end

