-- ==== Sys2Proof/Machine/NodePort.lean ====
section
/-!
DEFINITION. The node link controller (chapter 4): downstream frames and time marks, accepted and discarded upstream
frames, the Node Table, identification, polling, status reads and the site computer's transaction.
-/

namespace Sys2Proof.Machine

/-- The limit on an answer [µs] (R64, R70, R73). -/
def answerLimit : Nat := 2000
/-- The length of a poll's six slots [µs], from the end of the POLL (R69). -/
def pollTime : Nat := 1200
/-- The silence limit of a node [µs] (R65). -/
def silenceLimit : Nat := 5000
/-- The time after an item's first attempt at which a refusal ends BLOCK_REPEAT [µs] (R75). -/
def repeatLimit : Nat := 40000

def allNodes : List NodeAddr := [0, 1, 2, 3, 4, 5]

/-- A downstream frame becomes ready (R62). -/
def State.sendDown (s : State) (f : DownFrame) : State := { s with node.ready := s.node.ready ++ [f] }

/-- The mark interval of a power state [µs] (R3). -/
def markInterval : Power → Nat
  | .active => 1000
  | .standby => 100000

/-- TIME_MARK (R3): at its mark time a mark becomes ready, and the next is scheduled. R3 takes the interval from the power
state when the mark is sent, and R62 lets it wait for the line: that the power state is read when the mark becomes ready,
and not when it goes onto the line, is the model's choice (assumption 33). So is it that a mark follows the frames that were
ready before it (assumption 40). -/
def execTimeMark (dt : Time) (s : State) : Host.Outcome State Fault Refusal :=
  let s := s.advance dt
  if reached s.clock s.node.nextMark then
    .next { s.sendDown (.timeMark s.node.nextMark) with
            node.nextMark := s.node.nextMark + micros (markInterval s.session.power) }
  else .next s

/-! ## Nodes coming and going (R62 to R66) -/

/-- A THERMAL node became ONLINE: the first after power-on starts the settle timer from WAITING (R41, R64). -/
def State.thermalOnline (s : State) : State :=
  if s.session.thermalSeen then s
  else if s.session.settleState = .waiting then
    { s with session.thermalSeen := true, session.settle := s.settleTimer, session.settleState := .settling }
  else { s with session.thermalSeen := true }

/-- HALT to a node that becomes ONLINE while the power state is STANDBY (R62). -/
def State.haltIfAsleep (s : State) (k : NodeAddr) : State :=
  if s.session.power = .standby then s.sendDown (.halt (some k)) else s

/-- Node `k` becomes ONLINE from ABSENT or SILENT with the rest of its entry as `e` (R62, R64, R66). -/
def State.becomeOnline (s : State) (k : NodeAddr) (e : NodeEntry) : State :=
  let s := (s.updNode k fun _ => { e with status := .online }).haltIfAsleep k
  if e.type = some .thermal then s.thermalOnline else s

/-- Step 1 of R63 for a frame that resolves no IDENT: a SILENT node returns with a status read owed (R66); a frame
other than an IDENT ANSWER from an ABSENT node makes its identification pending (R64). -/
def State.frameFrom (s : State) (k : NodeAddr) (isIdent : Bool) : State :=
  let e := s.node.nodes[k]
  match e.status with
  | .silent => s.becomeOnline k { e with owed := true }
  | .absent => if isIdent then s else s.updNode k fun e => { e with identPending := true }
  | .online | .fault => s

/-- Steps 2 and 3 of R63: the last-frame time, and the SRQ flag (R69). -/
def State.touchNode (s : State) (k : NodeAddr) (srq : Bool) : State :=
  let s := s.updNode k fun e => { e with lastFrame := some s.clock }
  if srq then { s with node.pollWanted := true } else s

/-- SAMPLES (R63, R78, R168). -/
def execSamples (dt : Time) (frame : List Byte) (s : State) : Host.Outcome State Fault Refusal :=
  let s := s.advance dt
  match parseUp frame with
  | some ⟨k, srq, .samples first chs⟩ =>
    .next ((((s.frameFrom k false).touchNode k srq).storeFrame k first chs).forwardFrame k frame)
  | _ => .next s

/-- UPSTREAM_DISCARD (R63): each 16th discard raises N6 with an empty source. -/
def execUpstreamDiscard (dt : Time) (frame : List Byte) (s : State) : Host.Outcome State Fault Refusal :=
  let s := s.advance dt
  match parseUp frame with
  | some _ => .next s
  | none =>
    let n := s.node.discards
    let s : State := { s with node.discards := bump n }
    .next (if n < 65535 ∧ bump n % 16 = 0 then s.raise .n6 .empty else s)

/-- NODE_SILENCE (R65). -/
def execNodeSilence (dt : Time) (k : NodeAddr) (s : State) : Host.Outcome State Fault Refusal :=
  let s := s.advance dt
  let e := s.node.nodes[k]
  match e.lastFrame with
  | some t =>
    if s.session.power = .active ∧ (e.status = .online ∨ e.status = .fault) ∧
        reached s.clock (t + micros silenceLimit) = true then
      .next ((s.updNode k fun e => { e with status := .silent, faults := [] }).raise .n1 (.node s.session.seq k))
    else .next s
  | none => .next s

/-! ## The controller's own work (R64, R68 to R70) -/

/-- The first node a status read is waiting for: requesting or owed (R68, rank 1). -/
def State.nextStatus (s : State) : Option NodeAddr :=
  allNodes.find? fun k => s.node.nodes[k].requesting || s.node.nodes[k].owed

/-- The first node whose identification is pending (R68, rank 2). -/
def State.nextIdent (s : State) : Option NodeAddr := allNodes.find? fun k => s.node.nodes[k].identPending

/-- IDENT (R64, R68). The work is in flight from when its request becomes ready (assumption 36). -/
def execIdent (dt : Time) (s : State) : Host.Outcome State Fault Refusal :=
  let s := s.advance dt
  match s.node.work, s.nextStatus, s.nextIdent with
  | none, none, some k => .next { s.sendDown (.ident k) with node.work := some (.ident k none) }
  | _, _, _ => .next s

/-- An IDENT is resolved by its answer (R64). -/
def State.resolveIdent (s : State) (k : NodeAddr) (t : NodeType) (roles : List Role) : State :=
  ({ s with node.work := none } : State).becomeOnline k
    { s.node.nodes[k] with identPending := false, type := some t, roles, faults := [] }

/-- Whether an IDENT sent to node `k` awaits its answer. -/
def State.awaitsIdent (s : State) (k : NodeAddr) : Bool :=
  match s.node.work with
  | some (.ident j (some _)) => decide (j = k)
  | _ => false

/-- IDENT_ANSWER (R63, R64). -/
def execIdentAnswer (dt : Time) (frame : List Byte) (s : State) : Host.Outcome State Fault Refusal :=
  let s := s.advance dt
  match parseUp frame with
  | some ⟨k, srq, .identAnswer t roles⟩ =>
    .next ((if s.awaitsIdent k then s.resolveIdent k t roles else s.frameFrom k true).touchNode k srq)
  | _ => .next s

/-- IDENT_TIMEOUT (R64). -/
def execIdentTimeout (dt : Time) (s : State) : Host.Outcome State Fault Refusal :=
  let s := s.advance dt
  match s.node.work with
  | some (.ident k (some t)) =>
    if reached s.clock (t + micros answerLimit) then
      .next (({ s with node.work := none } : State).updNode k fun e => { e with identPending := false })
    else .next s
  | _ => .next s

/-- POLL (R68, R69). That the wanted poll is cleared when the POLL becomes ready, and not when it goes onto the line, is the
model's choice (assumption 35); the poll is in flight from the same moment (assumption 36). -/
def execPoll (dt : Time) (s : State) : Host.Outcome State Fault Refusal :=
  let s := s.advance dt
  match s.node.work, s.nextStatus, s.nextIdent with
  | none, none, none =>
    if s.node.pollWanted then
      .next { s.sendDown .poll with node.work := some (.poll false none), node.pollWanted := false }
    else .next s
  | _, _, _ => .next s

/-- POLL_ANSWER (R63, R69): its SRQ flag is not read. It marks its node from the sending of the POLL to the poll's end. -/
def execPollAnswer (dt : Time) (frame : List Byte) (s : State) : Host.Outcome State Fault Refusal :=
  let s := s.advance dt
  match parseUp frame with
  | some ⟨k, _, .pollAnswer⟩ =>
    let s := (s.frameFrom k false).touchNode k false
    match s.node.work with
    | some (.poll true _) => .next (s.updNode k fun e => { e with requesting := true })
    | _ => .next s
  | _ => .next s

/-- POLL_END (R69): the sixth slot ends 1200 µs after the end of the POLL; a poll with no requesting node is spurious. -/
def execPollEnd (dt : Time) (s : State) : Host.Outcome State Fault Refusal :=
  let s := s.advance dt
  match s.node.work with
  | some (.poll _ (some t)) =>
    if reached s.clock (t + micros pollTime) then
      let s : State := { s with node.work := none }
      if allNodes.any fun k => s.node.nodes[k].requesting then .next s
      else .next { s with node.spurious := bump s.node.spurious }
    else .next s
  | _ => .next s

/-- STATUS_REQUEST (R68, R70): one read serves a node both requesting and owed; an owed read stays owed until it is
answered. The read is in flight from when its request becomes ready (assumption 36). -/
def execStatusRequest (dt : Time) (s : State) : Host.Outcome State Fault Refusal :=
  let s := s.advance dt
  match s.node.work, s.nextStatus with
  | none, some k =>
    .next { (s.sendDown (.statusRequest k)).updNode k (fun e => { e with requesting := false }) with
            node.work := some (.status k none) }
  | _, _ => .next s

/-- The entries of a fault list with repeats dropped (R67). -/
def dedupFaults : List FaultEntry → List FaultEntry → List FaultEntry
  | acc, [] => acc
  | acc, f :: l => dedupFaults (if f ∈ acc then acc else acc ++ [f]) l

/-- The local channels a fault list names, each once, in its order. -/
def namedChannels : List FaultEntry → List Nat
  | [] => []
  | f :: l =>
    match f.channel with
    | some c => c :: (namedChannels l).filter (· ≠ c)
    | none => namedChannels l

/-- A fault list applied to the Node Table, with its N2 and N3 raises (R67). -/
def State.applyStatus (s : State) (k : NodeAddr) (answer : List FaultEntry) : State :=
  let e := s.node.nodes[k]
  let l := dedupFaults [] answer
  let src := Source.node s.session.seq k
  if l = [] then
    let s := s.updNode k fun e => { e with faults := [], status := if e.status = .fault then .online else e.status }
    if e.status = .fault then s.haltIfAsleep k else s
  else
    let news := (namedChannels l).filter fun c => c ∉ namedChannels e.faults
    let s := s.updNode k fun e => { e with faults := l, status := if e.status = .online then .fault else e.status }
    (if e.status = .online then s.raise .n2 src else s).raiseAll src (news.map fun _ => .n3)

/-- STATUS_ANSWER (R63, R67, R70). -/
def execStatusAnswer (dt : Time) (frame : List Byte) (s : State) : Host.Outcome State Fault Refusal :=
  let s := s.advance dt
  match parseUp frame with
  | some ⟨k, srq, .statusAnswer l⟩ =>
    let s := (s.frameFrom k false).touchNode k srq
    match s.node.work with
    | some (.status j (some _)) =>
      if j = k then
        let s := ({ s with node.work := none } : State).updNode k fun e => { e with owed := false }
        if s.node.nodes[k].status = .absent then .next s else .next (s.applyStatus k l)
      else .next s
    | _ => .next s
  | _ => .next s

/-- STATUS_READ_TIMEOUT (R70): an owed read stays owed. -/
def execStatusReadTimeout (dt : Time) (s : State) : Host.Outcome State Fault Refusal :=
  let s := s.advance dt
  match s.node.work with
  | some (.status _ (some t)) =>
    if reached s.clock (t + micros answerLimit) then .next { s with node.work := none } else .next s
  | _ => .next s

/-! ## The site computer's transaction (R72 to R77) -/

/-- Transaction outcomes (Table 4.7). -/
inductive TxOutcome where
  | complete | refused | noAnswer | repeatTimeout | scanEnd | sessionOpened | aborted
deriving DecidableEq, Repr

def TxOutcome.code : TxOutcome → Nat
  | .complete => 0 | .refused => 1 | .noAnswer => 2 | .repeatTimeout => 3 | .scanEnd => 4 | .sessionOpened => 5
  | .aborted => 6

/-- The answer of one request (R73). -/
inductive ItemResult where
  | accept (v : Half)
  | refuse
  | noAnswer
deriving DecidableEq, Repr

/-- The item being served; in SCAN the one item at the address being served. -/
def Transaction.current (t : Transaction) : Option TxItem :=
  match t.mode with
  | .scan =>
    match t.items with
    | i :: _ => if h : t.index < 6 then some { i with node := ⟨t.index, h⟩ } else none
    | [] => none
  | _ => t.items[t.index]?

/-- Items not attempted; in SCAN the addresses from the start address to 6 not yet reached (R73, R76, R77). -/
def Transaction.remaining (t : Transaction) : Nat :=
  match t.mode with
  | .scan => if t.inFlight then 5 - t.index else 6 - (match t.items with
    | i :: _ => i.node.val
    | [] => 6)
  | _ => t.items.length - t.attempted

/-- The results of a transaction's REPLY (R77). That the index of a kept READ value comes before the value is the model's
choice: R77 names both and no order (assumption 13). -/
def Transaction.results (t : Transaction) (o : TxOutcome) : List Byte :=
  le1 o.code ++ le2 t.attempted ++ le2 t.accepted ++ le2 t.refused ++ le2 t.unanswered ++ le2 t.remaining ++
  t.values.flatMap fun v => le2 v.1 ++ leHalf v.2

def codeNodeTransaction : Byte := 0x0A

/-- The transaction ends: the slot is EMPTY and its REPLY is offered (R77). -/
def State.endTransaction (s : State) (t : Transaction) (o : TxOutcome) : State :=
  ({ s with node.slot := none, node.work := none } : State).offerReply
    { tag := t.tag, code := codeNodeTransaction, status := .ok, results := t.results o }

/-- An ITEM REQUEST for the item being served becomes ready (R73). It is the work in flight from then on (assumption 36). -/
def State.sendItem (s : State) (t : Transaction) : State :=
  match t.current with
  | some i =>
    { s.sendDown (.itemRequest i.node i.register i.write i.value) with
      node.slot := some t, node.work := some (.item none) }
  | none => { s with node.slot := some t }

/-- The first ONLINE address from `a` on, 0 for address 1 (R76). -/
def State.nextOnline (s : State) (a : Nat) : Option NodeAddr :=
  allNodes.find? fun k => decide (a ≤ k.val ∧ s.node.nodes[k].status = .online)

/-- SCAN goes on from address `a`: to the first ONLINE address, or to its end (R76). -/
def State.scanFrom (s : State) (t : Transaction) (a : Nat) : State :=
  match s.nextOnline a with
  | some k => s.sendItem { t with index := k.val, firstAttempt := none }
  | none => s.endTransaction { t with index := 5 } .scanEnd

/-- TRANSACTION_BEGIN (R68, R73). -/
def execTransactionBegin (dt : Time) (s : State) : Host.Outcome State Fault Refusal :=
  let s := s.advance dt
  match s.node.work, s.nextStatus, s.nextIdent, s.node.slot with
  | none, none, none, some t =>
    if s.node.pollWanted || t.inFlight then .next s
    else
      let t := { t with inFlight := true }
      match t.mode, t.items with
      | .scan, i :: _ => .next (s.scanFrom t i.node.val)
      | _, _ => .next (s.sendItem t)
  | _, _, _, _ => .next s

/-- An item counted by its last answer, with a READ's value kept with its item index, from 0 (assumption 28), or in SCAN
with its address (R73, R76). -/
def Transaction.tally (t : Transaction) : ItemResult → Transaction
  | .accept v =>
    let write := match t.current with
      | some i => i.write
      | none => true
    { t with accepted := t.accepted + 1,
             values := if write then t.values else t.values ++ [(if t.mode = .scan then t.index + 1 else t.index, v)] }
  | .refuse => { t with refused := t.refused + 1 }
  | .noAnswer => { t with unanswered := t.unanswered + 1 }

/-- What an answer makes of a transaction (R74 to R76). -/
inductive TxVerdict where
  | again
  | next
  | ends (o : TxOutcome)
deriving DecidableEq, Repr

def Transaction.verdict (t : Transaction) (now : Time) (r : ItemResult) : TxVerdict :=
  match t.mode, r with
  | .single, .accept _ => .ends .complete
  | .single, .refuse => .ends .refused
  | .single, .noAnswer => .ends .noAnswer
  | .blockStop, .accept _ => .next
  | .blockStop, .refuse => .ends .refused
  | .blockStop, .noAnswer => .ends .noAnswer
  | .blockIgnore, .noAnswer => if t.disable then .next else .ends .noAnswer
  | .blockIgnore, _ => .next
  | .blockRepeat, .accept _ => .next
  | .blockRepeat, .refuse =>
    match t.firstAttempt with
    | some f => if reached now (f + micros repeatLimit) then .ends .repeatTimeout else .again
    | none => .again
  | .blockRepeat, .noAnswer => if t.disable then .next else .ends .noAnswer
  | .scan, _ => .next

/-- The item on the port is resolved and the transaction goes on or ends (R73 to R77). -/
def State.resolveItem (s : State) (t : Transaction) (r : ItemResult) : State :=
  if t.sessionOpened then s.endTransaction (t.tally r) .sessionOpened
  else
    match t.verdict s.clock r with
    | .again => s.sendItem t
    | .ends o => s.endTransaction (t.tally r) o
    | .next =>
      if t.mode = .scan then s.scanFrom (t.tally r) (t.index + 1)
      else if t.index + 1 < t.items.length then
        s.sendItem { t.tally r with index := t.index + 1, firstAttempt := none }
      else s.endTransaction (t.tally r) .complete

/-- ITEM_ANSWER (R63, R71, R73). -/
def execItemAnswer (dt : Time) (frame : List Byte) (s : State) : Host.Outcome State Fault Refusal :=
  let s := s.advance dt
  match parseUp frame with
  | some ⟨k, srq, .itemAnswer accept v⟩ =>
    let s := (s.frameFrom k false).touchNode k srq
    match s.node.work, s.node.slot with
    | some (.item (some _)), some t =>
      if (t.current.map (·.node)) = some k then .next (s.resolveItem t (if accept then .accept v else .refuse))
      else .next s
    | _, _ => .next s
  | _ => .next s

/-- ITEM_TIMEOUT (R73). -/
def execItemTimeout (dt : Time) (s : State) : Host.Outcome State Fault Refusal :=
  let s := s.advance dt
  match s.node.work, s.node.slot with
  | some (.item (some t0)), some t =>
    if reached s.clock (t0 + micros answerLimit) then .next (s.resolveItem t .noAnswer) else .next s
  | _, _ => .next s

/-- A session opening and the slot: a WAITING transaction ends at once, an IN_FLIGHT one after the request on the port
(R77). A request that is ready and not yet on the line is still sent and resolved first: the model's choice (assumption
29). -/
def State.openEndsTransaction (s : State) : State :=
  match s.node.slot with
  | none => s
  | some t =>
    if t.inFlight then { s with node.slot := some { t with sessionOpened := true } }
    else
      ({ s with node.slot := none } : State).offerReply
        { tag := t.tag, code := codeNodeTransaction, status := .ok, results := t.results .sessionOpened }

/-- The counts of a transaction that a site reset ends: a request on the port counts as unanswered, and a repeat not
yet sent leaves its item refused (R77). -/
def Transaction.abort (t : Transaction) (work : Option Work) : Transaction :=
  match work, t.firstAttempt with
  | some (.item (some _)), _ => { t with unanswered := t.unanswered + 1 }
  | some (.item none), some _ => { t with refused := t.refused + 1 }
  | _, _ => t

/-! ## The downstream line (R62) -/

/-- The frame that carries the request of the work in flight. -/
def DownFrame.isRequest : DownFrame → Bool
  | .timeMark _ | .halt _ | .resume => false
  | .ident _ | .poll | .statusRequest _ | .itemRequest .. => true

/-- Work when the frame on the downstream line ends: where that is the POLL of the poll in flight, its answer slots begin
(R69). -/
def Work.lineEnded (now : Time) : Work → Work
  | .poll sent t => .poll sent (if sent then t <|> some now else t)
  | .ident k t => .ident k t
  | .status k t => .status k t
  | .item t => .item t

/-- The frame on the downstream line ends. -/
def State.frameEnded (s : State) : State := { s with node.work := s.node.work.map (·.lineEnded s.clock) }

/-- Work when its request goes onto the line: its limit runs from now (R69, R71, R73), but a poll's from its end. -/
def Work.onLine (now : Time) : Work → Work
  | .ident k t => .ident k (t <|> some now)
  | .poll _ t => .poll true t
  | .status k t => .status k (t <|> some now)
  | .item t => .item (t <|> some now)

/-- An item's first request attempts it (R75). -/
def Transaction.attempt (t : Transaction) (now : Time) : Transaction :=
  if t.firstAttempt = none then { t with attempted := t.attempted + 1, firstAttempt := some now } else t

/-- The request of the work in flight goes onto the line. -/
def State.requestSent (s : State) : State :=
  { s with
    node.work := s.node.work.map (·.onLine s.clock)
    node.slot := if s.node.work = some (.item none) then s.node.slot.map (·.attempt s.clock) else s.node.slot }

/-- DOWNSTREAM_SEND (R62): the frame on the line has ended, and the frame ready longest is sent. -/
def execDownstreamSend (dt : Time) (s : State) : Host.Outcome State Fault Refusal :=
  let s := (s.advance dt).frameEnded
  match s.node.ready with
  | [] => .next { s with node.line := none }
  | f :: rest =>
    let s : State := { s with node.ready := rest, node.line := some f }
    .next (if f.isRequest then s.requestSent else s)

end Sys2Proof.Machine
end

