-- ==== Sys2Proof/Machine/Commands.lean ====
section
/-!
DEFINITION. The inbound side of the station port (sections 10.1 and 10.2): frames received, the command queue, and
the dispatcher's taking of a command, its length check and the replies its owners give at once.
-/

namespace Sys2Proof.Machine

def commandCapacity : Nat := 4

/-! ## Replies given at once (R165, R177) -/

/-- The command code of a command; none when its payload is empty. -/
def Command.code? (c : Command) : Option Byte := c.payload.head?

/-- The arguments of a command: its payload after the code. -/
def Command.args (c : Command) : List Byte := c.payload.drop 1

/-- The reply to a command with a status and results. -/
def Command.reply (c : Command) (st : Status) (results : List Byte) : Reply :=
  { tag := c.tag, code := byteAt c.payload 0, status := st, results }

/-- A command answered at once, in the place reserved for its reply (R166). -/
def State.answer (s : State) (c : Command) (st : Status) (results : List Byte) : State :=
  s.placeReply (c.reply st results)

/-- A command refused with RANGE and the index of the first bad entry or item. -/
def State.answerRange (s : State) (c : Command) (i : Nat) : State := s.answer c .range (le2 i)

/-- A command refused with RANGE where no rule names the index: it is free (assumption 11). -/
def State.answerRangeFree (s : State) (c : Command) : State := s.drawIndex.2.answer c .range (leHalf s.drawIndex.1)

/-! ## Command codes (Table 11.3) -/

def codeLoadTable : Byte := 0x01
def codeReadTable : Byte := 0x02
def codeDescribe : Byte := 0x03
def codeReadStatus : Byte := 0x04
def codeSiteReset : Byte := 0x05
def codeStandby : Byte := 0x06
def codeWake : Byte := 0x07
def codeCloseTrain : Byte := 0x08
def codeReadAxle : Byte := 0x09
def codeTopAlert : Byte := 0x0B
def codeClearAlert : Byte := 0x0C
def codeSetAlertEnable : Byte := 0x0D
def codeReportDirectory : Byte := 0x0E
def codeReadReport : Byte := 0x0F
def codeAbortReadout : Byte := 0x10
def codeReleaseReport : Byte := 0x11

/-- Whether a command code is one of Table 11.3. -/
def isKnownCode (b : Byte) : Bool := decide (1 ≤ b.toNat ∧ b.toNat ≤ 0x11)

/-! ## The dispatcher (R165) -/

/-- The dispatcher takes the oldest command when its code is `code` and the REPLY class has room; a command whose
arguments have a length `fits` does not allow is answered BAD_LENGTH, and any other goes to its owner `f` (R165). -/
def State.serve (s : State) (code : Byte) (fits : Nat → Bool) (f : Command → State → State) : State :=
  match s.port.commands with
  | [] => s
  | c :: rest =>
    if s.replyRoom = true ∧ c.code? = some code then
      let s : State := { s with port.commands := rest }
      if fits c.args.length then f c s else s.answer c .badLength []
    else s

/-- A fixed argument length. -/
def exactly (n : Nat) : Nat → Bool := fun m => decide (m = n)

/-- A command with a list, whose length its owner checks. -/
def anyLength : Nat → Bool := fun _ => true

/-- UNKNOWN_COMMAND (R165): the oldest command has no code of Table 11.3; an empty payload gives a free code byte
(assumption 10). -/
def execUnknownCommand (dt : Time) (s : State) : Host.Outcome State Fault Refusal :=
  let s := s.advance dt
  match s.port.commands with
  | [] => .next s
  | c :: rest =>
    if s.replyRoom then
      let t : State := { s with port.commands := rest }
      match c.code? with
      | some b => if isKnownCode b then .next s else .next (t.answer c .unknownCommand [])
      | none => .next (t.drawByte.2.placeReply { tag := c.tag, code := t.drawByte.1, status := .unknownCommand })
    else .next s

/-! ## Reception (R163, R164) -/

/-- The frame kind of a COMMAND. -/
def kindCommand : Byte := 0x01

/-- A discarded frame: counted, with N6 at each 16th (R163). -/
def State.discardStation (s : State) : State :=
  let n := s.port.crcDiscards
  let s : State := { s with port.crcDiscards := bump n }
  if n < 65535 ∧ bump n % 16 = 0 then s.raise .n6 .empty else s

/-- A received command is queued, refused QUEUE_FULL or dropped, by the first line of R164 that applies. -/
def State.receiveCommand (s : State) (c : Command) : State :=
  if s.port.commands.length < commandCapacity then { s with port.commands := s.port.commands ++ [c] }
  else if s.replyRoom then
    match c.code? with
    | some _ => s.answer c .queueFull []
    | none => s.drawByte.2.placeReply { tag := c.tag, code := s.drawByte.1, status := .queueFull }
  else { s with port.commandsDropped := bump s.port.commandsDropped }

/-- STATION_FRAME_RECEIVE (R163, R164). -/
def execStationFrameReceive (dt : Time) (frame : List Byte) (s : State) : Host.Outcome State Fault Refusal :=
  let s := s.advance dt
  match parseStation frame with
  | some f => .next (if f.kind = kindCommand then s.receiveCommand ⟨f.tag, f.payload⟩ else s.discardStation)
  | none => .next s.discardStation

end Sys2Proof.Machine
end

