-- ==== Sys2Proof/Machine/AlertCommands.lean ====
section
/-!
DEFINITION. The commands to the alert unit (section 8.3): TOP ALERT, CLEAR ALERT and SET ALERT ENABLE.
-/

namespace Sys2Proof.Machine

/-- The first kind in priority order that is pending and enabled (R143). -/
def State.topKind (s : State) : Option AlertKind :=
  AlertKind.all.find? fun k => (s.alertEntry k).pending && (s.alertEntry k).enabled

/-- The results of TOP ALERT: NONE, or the kind's code, count and sources (R143). -/
def State.topAlertBytes (s : State) : List Byte :=
  optional (fun k => le1 (AlertKind.code k) ++ le2 (s.alertEntry k).count ++ sourceBytes (s.alertEntry k).first ++
    sourceBytes (s.alertEntry k).last) s.topKind

/-- TOP_ALERT (R143). -/
def execTopAlert (dt : Time) (s : State) : Host.Outcome State Fault Refusal :=
  .next ((s.advance dt).serve codeTopAlert (exactly 0) fun c s => s.answer c .ok s.topAlertBytes)

/-- An entry cleared: its enable is kept (R141). -/
def AlertEntry.cleared (e : AlertEntry) : AlertEntry := { enabled := e.enabled }

def State.clearKind (s : State) (k : AlertKind) : State :=
  { s with alert.entries := s.alert.entries.set k.idx (s.alertEntry k).cleared }

def State.clearAll (s : State) : State := { s with alert.entries := Vec.map AlertEntry.cleared s.alert.entries }

/-- The kind of an alert code (Table 8.2). -/
def kindOfCode (b : Byte) : Option AlertKind := AlertKind.all.find? fun k => decide (k.code = b.toNat)

/-- The argument of CLEAR ALERT for every kind. -/
def codeAll : Byte := 0xFF

/-- The answer to CLEAR ALERT (R141). -/
def State.serveClearAlert (c : Command) (s : State) : State :=
  if byteAt c.args 0 = codeAll then s.clearAll.answer c .ok []
  else
    match kindOfCode (byteAt c.args 0) with
    | some k => (s.clearKind k).answer c .ok []
    | none => s.answerRangeFree c

/-- CLEAR_ALERT (R141). -/
def execClearAlert (dt : Time) (s : State) : Host.Outcome State Fault Refusal :=
  .next ((s.advance dt).serve codeClearAlert (exactly 1) State.serveClearAlert)

/-- The 21 enables written from a mask in one change (R142). -/
def State.setEnables (s : State) (mask : BitVec 32) : State :=
  { s with alert.entries := Vector.ofFn fun i => { s.alert.entries[i] with enabled := mask.getLsbD i.val } }

/-- The answer to SET ALERT ENABLE: a mask with a bit above 20 set is refused (R142, section 11.1). -/
def State.serveSetAlertEnable (c : Command) (s : State) : State :=
  let mask := word c.args 0
  if 2 ^ 21 ≤ mask.toNat then s.answerRangeFree c else (s.setEnables mask).answer c .ok []

/-- SET_ALERT_ENABLE (R142). -/
def execSetAlertEnable (dt : Time) (s : State) : Host.Outcome State Fault Refusal :=
  .next ((s.advance dt).serve codeSetAlertEnable (exactly 4) State.serveSetAlertEnable)

end Sys2Proof.Machine
end

