-- ==== Sys2Proof/Machine/Gates.lean ====
section
/-!
DEFINITION. The gate unit's own state (chapter 8): the camera trigger queue and its pulse (R149, R150) and the
EXIT_PULSE condition (R147). The levels of the lines are in Flags.lean.
-/

namespace Sys2Proof.Machine

def cameraCapacity : Nat := 4
/-- The length of the EXIT_PULSE condition after a request [µs] (R147). -/
def exitPulseTime : Nat := 1000

/-- A waiting pulse inserted in ascending fire time, after those of equal fire time (R149). -/
def insertPulse (p : CameraPulse) : List CameraPulse → List CameraPulse
  | [] => [p]
  | q :: l => if older p.fire q.fire then p :: q :: l else q :: insertPulse p l

/-- A camera outcome written into the record of a pulse's ordinal, when the Axle Table is of the pulse's train
(R149). -/
def State.writeCamera (s : State) (seq : Half) (ordinal : Nat) (o : CameraOutcome) : State :=
  if seq = s.axles.tableSeq then s.updRecord ordinal fun r => { r with camera := some o } else s

/-- The camera pulse width in force; 0 while no Site Constants is active. -/
def State.cameraWidth (s : State) : Nat :=
  match s.site with
  | some sc => sc.cameraWidth
  | none => 0

/-- A pulse starts on G1 and its outcome is written: FIRED at its fire time, CAMERA_LATE after it (R150). -/
def State.startPulse (s : State) (p : CameraPulse) : State :=
  ({ s with gate.pulse := some ⟨s.clock, s.cameraWidth⟩ } : State).writeCamera p.seq p.ordinal
    (if s.clock = p.fire then .fired else .late)

/-- The camera distance from the entry head (R149). -/
def cameraDistance (dir : Direction) (lab x : Nat) : Nat :=
  match dir with
  | .forward => x
  | .reverse => lab - x

/-- The fire time of a first-pass entry (R149). -/
def fireTime (sc : SiteConstants) (dir : Direction) (x : Nat) (c : Crossing) : Time :=
  c.time + micros (cameraDistance dir sc.lab x * c.interval.toNat / sc.coilSpacing)

/-- A waiting or starting pulse placed by the first line of R149 that applies. -/
def State.placePulse (s : State) (p : CameraPulse) : State :=
  if cameraCapacity ≤ s.gate.queue.length then s.writeCamera p.seq p.ordinal .missed
  else if reached s.clock p.fire ∧ s.gate.pulse = none ∧ s.gate.queue = [] then s.startPulse p
  else { s with gate.queue := insertPulse p s.gate.queue }

/-- A first-pass entry of ordinal `k` is handed to the gate unit (R149). -/
def State.scheduleCamera (s : State) (k : Nat) (c : Crossing) : State :=
  match s.site, s.session.record.direction with
  | some sc, some dir =>
    match sc.camera with
    | none => s
    | some x => s.placePulse ⟨fireTime sc dir x c, k, s.session.seq⟩
  | _, _ => s

/-- CAMERA_PULSE_START (R150). -/
def execCameraPulseStart (dt : Time) (s : State) : Host.Outcome State Fault Refusal :=
  let s := s.advance dt
  match s.gate.queue, s.gate.pulse with
  | p :: rest, none =>
    if reached s.clock p.fire then .next (({ s with gate.queue := rest } : State).startPulse p) else .next s
  | _, _ => .next s

/-- CAMERA_PULSE_END (R150): the width has run. -/
def execCameraPulseEnd (dt : Time) (s : State) : Host.Outcome State Fault Refusal :=
  let s := s.advance dt
  match s.gate.pulse with
  | some p => if reached s.clock (p.start + micros p.width) then .next { s with gate.pulse := none } else .next s
  | none => .next s

/-- EXIT_PULSE_END (R147): 1000 µs after the last request. -/
def execExitPulseEnd (dt : Time) (s : State) : Host.Outcome State Fault Refusal :=
  let s := s.advance dt
  match s.gate.exitPulse with
  | some t => if reached s.clock (t + micros exitPulseTime) then .next { s with gate.exitPulse := none } else .next s
  | none => .next s

end Sys2Proof.Machine
end

