-- ==== Sys2Proof/Machine/Heads.lean ====
section
/-!
DEFINITION. The coil inputs and head decoders (chapter 1): edge filter, capture queues, decoder steps and the
crossings they emit.
-/

namespace Sys2Proof.Machine

def queueCapacity : Nat := 4

/-- The minimum pulse width in force [µs]; 40 until Site Constants is first activated (Table 1.1). -/
def State.minPulse (s : State) : Nat :=
  match s.site with
  | some sc => sc.minPulse
  | none => 40

/-! ## Edge filter and capture queue (R4 to R6) -/

/-- The line after its candidate is committed: the edge joins the capture queue, dropping the oldest of 4, the
filtered level follows, and the candidate goes (R4, R6). -/
def CoilLine.commit (l : CoilLine) (c : Candidate) : CoilLine :=
  { l with
    queue := (if l.queue.length < queueCapacity then l.queue else l.queue.drop 1) ++ [⟨c.time, c.rise⟩]
    overrun := l.overrun || decide (queueCapacity ≤ l.queue.length)
    filtered := c.rise
    candidate := none
    toSession := l.toSession ++ [c.time] }

/-- The decoder enters RESYNC, where it holds no crossing in progress (R12). -/
def HeadState.enterResync (hs : HeadState) : HeadState := { hs with resync := true, passage := none }

/-- The candidate of a line is committed; an OVERRUN newly set puts the decoder in RESYNC and counts a head fault
(R4, R6, R7). -/
def State.commitCandidate (s : State) (h : Head) (c : Coil) (cand : Candidate) : State :=
  let l := (s.head h).line c
  let hs := (s.head h).setLine c (l.commit cand)
  if queueCapacity ≤ l.queue.length ∧ l.overrun = false then (s.setHead h hs.enterResync).headFault h
  else s.setHead h hs

/-- A candidate edge is formed by a transition to level `lvl` at the present time (R4). -/
def State.formCandidate (s : State) (h : Head) (c : Coil) (lvl : Bool) : State :=
  s.setHead h ((s.head h).setLine c { (s.head h).line c with candidate := some ⟨s.clock, lvl, s.minPulse⟩ })

/-- A pulse shorter than the minimum pulse width is dropped whole and counted as chatter (R5). -/
def State.dropPulse (s : State) (h : Head) (c : Coil) : State :=
  s.setHead h
    { (s.head h).setLine c { (s.head h).line c with candidate := none } with chatter := bump (s.head h).chatter }

def State.setPin (s : State) (h : Head) (c : Coil) (lvl : Bool) : State :=
  s.setHead h ((s.head h).setLine c { (s.head h).line c with pin := lvl })

/-- The pin of a coil takes level `lvl` (R4, R5): it forms a candidate; or it returns while a candidate stands, and
then the pulse length alone decides between chatter and a commitment followed by a new candidate. -/
def State.pinTransition (s : State) (h : Head) (c : Coil) (lvl : Bool) : State :=
  let l := (s.head h).line c
  if l.pin = lvl then s
  else
    match l.candidate with
    | none => if lvl = l.filtered then s.setPin h c lvl else (s.setPin h c lvl).formCandidate h c lvl
    | some cand =>
      if (s.clock - cand.time).toNat < cand.minPulse then (s.setPin h c lvl).dropPulse h c
      else ((s.setPin h c lvl).commitCandidate h c cand).formCandidate h c lvl

/-- The candidate of a line that is due for commitment: its minimum pulse width is reached with the pin at its level
(R4). -/
def State.dueCandidate (s : State) (h : Head) (c : Coil) : Option Candidate :=
  match ((s.head h).line c).candidate with
  | some cand =>
    if reached s.clock (cand.time + micros cand.minPulse) ∧ ((s.head h).line c).pin = cand.rise then some cand else none
  | none => none

/-! ## Head decoder (R8 to R12) -/

/-- The coil whose queue holds the oldest edge; c1 at equal times (R8). -/
def HeadState.nextCoil (hs : HeadState) : Option Coil :=
  match hs.c1.queue, hs.c2.queue with
  | [], [] => none
  | _ :: _, [] => some .c1
  | [], _ :: _ => some .c2
  | e1 :: _, e2 :: _ => if older e2.time e1.time then some .c2 else some .c1

/-- The level the phase shows for a coil. -/
def HeadState.phaseOf (hs : HeadState) : Coil → Bool
  | .c1 => hs.phase1
  | .c2 => hs.phase2

def HeadState.setPhase (hs : HeadState) (c : Coil) (lvl : Bool) : HeadState :=
  match c with
  | .c1 => { hs with phase1 := lvl }
  | .c2 => { hs with phase2 := lvl }

/-- Taking the oldest edge of a line removes it; the last edge taken clears OVERRUN (R6). -/
def CoilLine.take (l : CoilLine) : CoilLine :=
  { l with queue := l.queue.drop 1, overrun := l.overrun && decide (1 < l.queue.length) }

/-- In RESYNC with both queues empty the phase is read from the filtered levels, and the decoder leaves RESYNC when
it is 00 (R12). -/
def HeadState.settleResync (hs : HeadState) : HeadState :=
  if hs.resync = true ∧ hs.c1.queue = [] ∧ hs.c2.queue = [] then
    { hs with phase1 := hs.c1.filtered, phase2 := hs.c2.filtered, resync := hs.c1.filtered || hs.c2.filtered }
  else hs

/-- The phase becomes 11 at `t`: the latest entry is `t`, the latest exit is absent while the decoder is in 11, and the
second-coil rise time is taken if still absent (section 1.4, Table 1.3). -/
def Passage.enter11 (p : Passage) (t : Time) : Passage :=
  { p with entry11 := some t, exit11 := none, secondRise := p.secondRise <|> some t }

/-- A fitting step in TRACKING: the effect column of Table 1.3 on the crossing in progress, and the passage that is
emitted, if any (R9). -/
def HeadState.track (hs : HeadState) (c : Coil) (e : Edge) : Option Passage × Option Passage :=
  match hs.phase1, hs.phase2, c, e.rise with
  | false, false, .c1, true => (some { dir := .forward, firstRise := e.time }, none)
  | false, false, .c2, true => (some { dir := .reverse, firstRise := e.time }, none)
  | true, false, .c2, true => (hs.passage.map (·.enter11 e.time), none)
  | false, true, .c1, true => (hs.passage.map (·.enter11 e.time), none)
  | true, true, .c2, false => (hs.passage.map fun p => { p with exit11 := some e.time }, none)
  | true, true, .c1, false => (hs.passage.map fun p => { p with exit11 := some e.time }, none)
  | false, true, .c2, false => (none, hs.passage.filter fun p => p.dir = .forward)
  | true, false, .c1, false => (none, hs.passage.filter fun p => p.dir = .reverse)
  | _, _, _, _ => (hs.passage, none)

/-- The outcome of one decoder step: the decoder after it, a passage emitted, and whether a head fault is counted. -/
structure StepOut where
  head : HeadState
  emitted : Option Passage := none
  fault : Bool := false
deriving DecidableEq, Repr

/-- One decoder step on the edge `e` taken from coil `c` (R8 to R12). -/
def HeadState.step (hs : HeadState) (c : Coil) (e : Edge) : StepOut :=
  let hs' := hs.setLine c (hs.line c).take
  if hs.phaseOf c = e.rise then
    { head := hs'.enterResync.settleResync, fault := !hs.resync }
  else if hs.resync then
    let hp := hs'.setPhase c e.rise
    { head := ({ hp with resync := hp.phase1 || hp.phase2 } : HeadState).settleResync }
  else
    { head := { hs'.setPhase c e.rise with passage := (hs.track c e).1 }, emitted := (hs.track c e).2 }

/-- The speed over `dist` millimetres in `t` microseconds, in 0.1 km/h (R10, R16). -/
def speedOver (dist t : Nat) : Int := clamp 0 65535 (roundDiv (dist * 36000) t)

/-- The coil-pair speed of a coil interval (R10). -/
def State.coilSpeed (s : State) (interval : Time) : Quantity :=
  match s.site with
  | none => .absent .headDisagree
  | some sc => if interval = 0 then .absent .headDisagree else .present (speedOver sc.coilSpacing interval.toNat) {}

/-- The crossing that an emitted passage gives (R10), and whether Site Constants had been activated by then (R13). -/
def State.formCrossing (s : State) (h : Head) (p : Passage) : Option Crossing :=
  match p.secondRise, p.entry11, p.exit11 with
  | some r2, some t1, some t2 =>
    some { head := h, dir := p.dir, time := t1 + micros ((t2 - t1).toNat / 2), interval := r2 - p.firstRise,
           speed := s.coilSpeed (r2 - p.firstRise), unsited := s.site.isNone }
  | _, _, _ => none

/-- The duration of a decoder step [µs] (R8). -/
def decoderStepTime : Nat := 20

/-- An edge of the other coil with the same time is still to be committed; the decoder sees both before choosing
(R8). -/
def State.tieAhead (s : State) (h : Head) (e : Edge) : Bool :=
  match s.dueCandidate h .c1, s.dueCandidate h .c2 with
  | none, none => false
  | some c1, none => decide (c1.time = e.time)
  | none, some c2 => decide (c2.time = e.time)
  | some c1, some c2 => decide (c1.time = e.time) || decide (c2.time = e.time)

/-- The decoder after a step, its emitted crossing handed to the session controller (R10, R13). -/
def State.applyStep (s : State) (h : Head) (o : StepOut) : State :=
  let out := match o.emitted with
    | some p => (s.formCrossing h p).toList
    | none => []
  let s := s.setHead h { o.head with busy := decoderStepTime, emitted := o.head.emitted ++ out }
  if o.fault then s.headFault h else s

/-- A head decoder takes its oldest edge, when one stands and no step is in progress (R8). -/
def State.decode (s : State) (h : Head) : State :=
  match (s.head h).nextCoil with
  | none => s
  | some c =>
    match ((s.head h).line c).queue with
    | [] => s
    | e :: _ => if (s.head h).busy ≠ 0 ∨ s.tieAhead h e then s else s.applyStep h ((s.head h).step c e)

/-! ## Events on the whole decoder (R19) -/

/-- A line after power-on or site reset: no candidate, the filtered level at the pin, the queue empty. Edges already
handed to the session controller are kept by a site reset (R42). -/
def CoilLine.reset (l : CoilLine) : CoilLine :=
  { l with filtered := l.pin, candidate := none, queue := [], overrun := false }

/-- A head after a site reset (Table 1.4): phase from the pins, counts 0; crossings already emitted are kept (R42). That
a decoder step in progress ends with it, so that the decoder may take an edge at once, is the model's choice: Table 1.4
does not list it (assumption 6). -/
def HeadState.reset (hs : HeadState) : HeadState :=
  { c1 := hs.c1.reset, c2 := hs.c2.reset, phase1 := hs.c1.pin, phase2 := hs.c2.pin, resync := hs.c1.pin || hs.c2.pin,
    emitted := hs.emitted }

/-- A head at power-on: as after a site reset, with nothing handed on. -/
def HeadState.powerOn (hs : HeadState) : HeadState :=
  { c1 := { hs.c1.reset with toSession := [] }, c2 := { hs.c2.reset with toSession := [] }, phase1 := hs.c1.pin,
    phase2 := hs.c2.pin, resync := hs.c1.pin || hs.c2.pin }

/-- Entry to STANDBY marks the crossing in progress as begun before it (R19). -/
def HeadState.sleep (hs : HeadState) : HeadState :=
  { hs with passage := hs.passage.map fun p => { p with beforeStandby := true } }

/-- A wake discards a crossing in progress begun before STANDBY, and enters RESYNC when the phase is then not 00
(R19). That this holds too where the edge that began the crossing is the one whose COIL_EDGE, taken only in STANDBY, causes
the wake is the model's choice between two sentences of R19 (assumption 19). -/
def HeadState.wake (hs : HeadState) : HeadState :=
  match hs.passage with
  | some p =>
    if p.beforeStandby then
      ({ hs with passage := none, resync := hs.phase1 || hs.phase2 || hs.resync } : HeadState).settleResync
    else hs
  | none => hs

/-! ## The rows -/

/-- COIL_PIN_TRANSITION (R4, R5). -/
def execCoilPinTransition (dt : Time) (h : Head) (c : Coil) (occupied : Bool) (s : State) :
    Host.Outcome State Fault Refusal :=
  .next ((s.advance dt).pinTransition h c occupied)

/-- CANDIDATE_COMMIT (R4, R6). -/
def execCandidateCommit (dt : Time) (h : Head) (c : Coil) (s : State) : Host.Outcome State Fault Refusal :=
  match (s.advance dt).dueCandidate h c with
  | some cand => .next ((s.advance dt).commitCandidate h c cand)
  | none => .next (s.advance dt)

/-- DECODER_STEP (R8 to R12). -/
def execDecoderStep (dt : Time) (h : Head) (s : State) : Host.Outcome State Fault Refusal :=
  .next ((s.advance dt).decode h)

end Sys2Proof.Machine
end

