-- ==== Sys2Proof/Machine/Measure.lean ====
section
/-!
DEFINITION. The load and bearing parts of a measurement (chapters 5 and 6): windows, reads, stages 1 to 6, peaks,
rises, completion and the immediate critical checks. A part whose reads are all made is completed by its own row,
LOAD_PART_COMPLETE or BEARING_PART_COMPLETE (assumption 4).
-/

namespace Sys2Proof.Machine

/-- The read limit of a part after its start [µs] (R86, R111). -/
def readLimit : Nat := 8000

/-! ## Windows (R88, R89, R110) -/

/-- The time at which the axle stands `d` millimetres from the entry head (R88). -/
def timeAt (tE dt : Time) (lab d : Nat) : Time := tE + micros (d * dt.toNat / lab)

/-- The distances from the entry head of the two edges of a stretch [x, x + len] (R89). -/
def edges (dir : Direction) (lab x len : Nat) : Nat × Nat :=
  match dir with
  | .forward => (x, x + len)
  | .reverse => (lab - x - len, lab - x)

/-- The trim of a window of length `w` by the core percentage (R89). -/
def trim (w core : Nat) : Nat := w * (100 - core) / 200

/-- The index of the valid entry that a predicate picks out. -/
def State.findChannel (s : State) (p : Channel → Bool) : Option ChanIdx :=
  allChannels.find? fun i =>
    match s.channel? i with
    | some e => p e
    | none => false

def railNumber : Rail → Nat
  | .r1 => 1
  | .r2 => 2

/-- The LOAD index of a rail and bay. -/
def State.bayIndex (s : State) (rail : Rail) (b : BayNo) : Option ChanIdx :=
  s.findChannel fun e => decide (e.kind = .load ∧ e.rail = railNumber rail ∧ e.bay = b.val + 1)

/-- The scanner index of a rail (R105). -/
def State.scannerIndex (s : State) (rail : Rail) : Option ChanIdx :=
  s.findChannel fun e => decide (e.kind = .bearing ∧ e.rail = railNumber rail)

/-- The ambient index (R105). -/
def State.ambientIndex (s : State) : Option ChanIdx := s.findChannel fun e => decide (e.kind = .ambient)

/-- A configured bay with its windows (R84, R88, R89). -/
def State.loadBay (s : State) (sc : SiteConstants) (a : AxleData) (rail : Rail) (b : BayNo) : Option LoadBay :=
  match s.bayIndex rail b, (sc.bayStart.get rail)[b] with
  | some i, some x =>
    let d := edges a.dir sc.lab x sc.bayLength
    let start := timeAt a.tE a.dt sc.lab d.1
    let stop := timeAt a.tE a.dt sc.lab d.2
    let t := micros (trim (stop - start).toNat sc.core)
    some { rail, bay := b, index := i, start, stop, coreStart := start + t, coreStop := stop - t }
  | _, _ => none

def allBays : List BayNo := [0, 1, 2, 3, 4, 5]

/-- The bay list of a part: rail 1 then rail 2, in ascending bay order (R84). -/
def State.loadBays (s : State) (sc : SiteConstants) (a : AxleData) : List LoadBay :=
  allBays.filterMap (s.loadBay sc a .r1) ++ allBays.filterMap (s.loadBay sc a .r2)

/-- A configured scanner with its window (R105, R110). -/
def State.scanner (s : State) (sc : SiteConstants) (a : AxleData) (rail : Rail) : Option Scanner :=
  match s.scannerIndex rail, sc.scanner.get rail with
  | some i, some x =>
    let d := match a.dir with
      | .forward => x
      | .reverse => sc.lab - x
    some { rail, index := i, start := timeAt a.tE a.dt sc.lab (d - sc.halfWindow),
           stop := timeAt a.tE a.dt sc.lab (d + sc.halfWindow) }
  | _, _ => none

/-! ## Axle-level tests (R85, R109) -/

/-- Stop flag, then head-disagreeing, then the speed test `slow` (Table 5.3, R109). -/
def axleAbsence (a : AxleData) (outside : Int → Bool) : Option Absence :=
  if a.stopFlag then some .stopInZone
  else if a.headDisagree then some .headDisagree
  else match a.speed with
    | .present v _ => if outside v then some .speedRange else none
    | _ => some .headDisagree

/-- The load part's speed test: outside the measuring range, whose limits belong to it (R85). -/
def outsideRange (sc : SiteConstants) (v : Int) : Bool := decide (v < sc.minSpeed ∨ (sc.maxSpeed : Int) < v)

/-- The bearing part's speed test: below 5.0 km/h (R109). -/
def belowBearing (v : Int) : Bool := decide (v < 50)

/-! ## Reading (R86, R111) -/

def LoadBay.readNow (s : State) (b : LoadBay) : LoadBay := { b with read := some (s.readAnswer b.index b.start b.stop) }

def Scanner.readNow (s : State) (c : Scanner) : Scanner := { c with read := some (s.readAnswer c.index c.start c.stop) }

/-- A WAITING bay whose ring has reached its window is read. -/
def LoadBay.readIfReached (s : State) (b : LoadBay) : LoadBay :=
  if b.read = none ∧ ringReached s.rings[b.index] b.stop = true then b.readNow s else b

/-- A WAITING scanner whose ring has reached its window is read. -/
def Scanner.readIfReached (s : State) (c : Scanner) : Scanner :=
  if c.read = none ∧ ringReached s.rings[c.index] c.stop = true then c.readNow s else c

/-- A load part begun for an axle (R84, R85): bays already reached are read at once. -/
def State.newLoadPart (s : State) (sc : SiteConstants) (a : AxleData) : LoadPart :=
  match axleAbsence a (outsideRange sc) with
  | some r => { axle := a, whole := some r, bays := [] }
  | none => { axle := a, whole := none, bays := (s.loadBays sc a).map (LoadBay.readIfReached s) }

/-- A bearing part begun for an axle (R109): scanners already reached are read at once. -/
def State.newBearingPart (s : State) (sc : SiteConstants) (a : AxleData) : BearingPart :=
  match axleAbsence a belowBearing with
  | some r => { axle := a, whole := some r, scanners := [] }
  | none =>
    { axle := a, whole := none,
      scanners := ((s.scanner sc a .r1).toList ++ (s.scanner sc a .r2).toList).map (Scanner.readIfReached s) }

def State.updLoadPart (s : State) (k : Nat) (f : LoadPart → LoadPart) : State :=
  { s with load.parts := s.load.parts.map fun p => if p.axle.ordinal = k then f p else p }

def State.updBearingPart (s : State) (k : Nat) (f : BearingPart → BearingPart) : State :=
  { s with thermal.parts := s.thermal.parts.map fun p => if p.axle.ordinal = k then f p else p }

def State.loadPart? (s : State) (k : Nat) : Option LoadPart := s.load.parts.find? (·.axle.ordinal == k)

def State.bearingPart? (s : State) (k : Nat) : Option BearingPart := s.thermal.parts.find? (·.axle.ordinal == k)

/-- BAY_READ (R86): a waiting bay whose ring has reached its window is read. -/
def execBayRead (dt : Time) (k : Nat) (rail : Rail) (bay : BayNo) (s : State) : Host.Outcome State Fault Refusal :=
  let s := s.advance dt
  .next (s.updLoadPart k fun p =>
    { p with bays := p.bays.map fun b => if b.rail = rail ∧ b.bay = bay then b.readIfReached s else b })

/-- LOAD_READ_LIMIT (R86): at start plus 8000 µs every waiting bay is read as its ring stands. -/
def execLoadReadLimit (dt : Time) (k : Nat) (s : State) : Host.Outcome State Fault Refusal :=
  let s := s.advance dt
  .next (s.updLoadPart k fun p =>
    if reached s.clock (p.axle.start + micros readLimit) then
      { p with bays := p.bays.map fun b => if b.read = none then b.readNow s else b }
    else p)

/-- SCANNER_READ (R111). -/
def execScannerRead (dt : Time) (k : Nat) (rail : Rail) (s : State) : Host.Outcome State Fault Refusal :=
  let s := s.advance dt
  .next (s.updBearingPart k fun p =>
    { p with scanners := p.scanners.map fun c => if c.rail = rail then c.readIfReached s else c })

/-- BEARING_READ_LIMIT (R111). -/
def execBearingReadLimit (dt : Time) (k : Nat) (s : State) : Host.Outcome State Fault Refusal :=
  let s := s.advance dt
  .next (s.updBearingPart k fun p =>
    if reached s.clock (p.axle.start + micros readLimit) then
      { p with scanners := p.scanners.map fun c => if c.read = none then c.readNow s else c }
    else p)

/-! ## Stages 1 to 3 (R87, R90, R91) -/

/-- The force of a raw sample, from tracked offset and gain (R87). -/
def forceOf (offset : Int) (gain : Nat) (r : Half) : Int :=
  clamp (-1000) 13000 (roundDiv ((r.toInt - offset) * gain) 4096)

/-- The temperature of a raw sample, from loaded offset and gain (R106). -/
def tempOf (offset : Int) (gain : Nat) (r : Half) : Int :=
  clamp (-600) 3000 (roundDiv ((r.toInt - offset) * gain) 4096)

/-- The tracked offset in use for an index; 0 for one that has none. -/
def State.offsetOf (s : State) (i : ChanIdx) : Int :=
  match s.load.zero[i] with
  | some z => z.offset
  | none => 0

/-- The gain of an index; 0 for one that is not valid. -/
def State.gainOf (s : State) (i : ChanIdx) : Nat :=
  match s.channel? i with
  | some e => e.gain
  | none => 0

/-- A sample converted to a force, with whether it was clipped. -/
structure Converted where
  value : Int
  clipped : Bool
deriving DecidableEq, Repr

/-- A bay as stages 2 to 6 see it, once READ: the forces of its core and of its full window, or STALE. -/
structure BayView where
  usable : Bool
  drift : Bool
  stale : Bool
  core : List Converted
  full : List Converted
deriving DecidableEq, Repr

/-- A READ bay's samples converted by stage 1 (R87). -/
def State.bayView (s : State) (b : LoadBay) : BayView :=
  let conv (x : Sample) : Converted := ⟨forceOf (s.offsetOf b.index) (s.gainOf b.index) x.raw, clippedRaw x.raw⟩
  match b.read with
  | some a =>
    match a.window with
    | .stale => { usable := a.unusable.isNone, drift := a.drift, stale := true, core := [], full := [] }
    | .samples l _ =>
      { usable := a.unusable.isNone, drift := a.drift, stale := false,
        core := (l.filter fun x => inWindow b.coreStart b.coreStop x.time).map conv, full := l.map conv }
  | none => { usable := false, drift := false, stale := false, core := [], full := [] }

/-- The bay outcome: the first line of Table 5.4 that applies (R90, R91). -/
def BayView.mean (v : BayView) : Quantity :=
  if !v.usable then .absent .noChannel
  else if v.stale then .absent .stale
  else if v.core.any (·.clipped) then .absent .clipped
  else if v.core.length < 8 then .absent .short
  else .present (clamp 0 13000 (roundDiv (sumInt (v.core.map (·.value))) v.core.length)) { drift := v.drift }

/-! ## Stages 4 to 6 and the axle load (R92 to R96) -/

/-- The reason of an absent static load: that of the first usable bay, or NO_CHANNEL (R92). -/
def staticReason (vs : List BayView) : Absence :=
  match vs.find? (·.usable) with
  | some v => v.mean.reasonOr .noChannel
  | none => .noChannel

/-- The static load of a rail from its bays in ascending order (R92, R96). -/
def staticLoad (unsteady : Bool) (vs : List BayView) : Quantity :=
  let means := vs.map (·.mean)
  let ms := means.filterMap (·.value?)
  if ms = [] then .absent (staticReason vs)
  else .present (roundDiv (sumInt ms) ms.length)
    { unsteady, fewBays := decide (ms.length = 1), drift := means.any (·.marks.drift) }

/-- A peak bay: usable, not STALE, with at least 8 samples in its full window (R93). -/
def BayView.isPeakBay (v : BayView) : Bool := v.usable && !v.stale && decide (8 ≤ v.full.length)

/-- The peak of a rail (R93, R96). -/
def peakLoad (unsteady : Bool) (vs : List BayView) : Quantity :=
  let bays := vs.filter (·.isPeakBay)
  match maxInt (bays.flatMap fun v => v.full.map (·.value)) with
  | some m =>
    .present m { unsteady, drift := bays.any (·.drift),
                 peakClipped := bays.any fun v => v.full.any fun x => x.clipped && decide (x.value = m) }
  | none =>
    .absent (match vs.find? (·.usable) with
      | some v => if v.stale then .stale else .short
      | none => .noChannel)

/-- The flags of increment and ratio (Table 5.5). -/
def impactMarks (static peak : Quantity) : Marks :=
  { unsteady := static.marks.unsteady, fewBays := static.marks.fewBays,
    drift := static.marks.drift || peak.marks.drift, peakClipped := peak.marks.peakClipped }

/-- The impact increment (R94). -/
def impactIncrement (static peak : Quantity) : Quantity :=
  match static, peak with
  | .present st _, .present pk _ => .present (max 0 (pk - st)) (impactMarks static peak)
  | .present _ _, q => .absent (q.reasonOr .noChannel)
  | q, _ => .absent (q.reasonOr .noChannel)

/-- The impact ratio (R94). -/
def impactRatio (static peak : Quantity) : Quantity :=
  match static, peak with
  | .present st _, .present pk _ =>
    if st < 50 then .absent .short else .present (pk * 100 / st) (impactMarks static peak)
  | .present _ _, q => .absent (q.reasonOr .noChannel)
  | q, _ => .absent (q.reasonOr .noChannel)

/-- The load results of a rail from its bays (R92 to R94). -/
def railLoad (unsteady : Bool) (vs : List BayView) : LoadResult :=
  let st := staticLoad unsteady vs
  let pk := peakLoad unsteady vs
  { static := st, bayCount := (vs.filterMap fun v => v.mean.value?).length, peak := pk,
    increment := impactIncrement st pk, ratio := impactRatio st pk }

/-- The load results of a rail whose quantities are all absent for one reason (R85). -/
def absentLoad (r : Absence) : LoadResult :=
  { static := .absent r, bayCount := 0, peak := .absent r, increment := .absent r, ratio := .absent r }

/-- The axle load (R95, R96). -/
def axleLoadOf (s1 s2 : Quantity) : Quantity :=
  match s1, s2 with
  | .present x m1, .present y m2 =>
    .present (x + y) { unsteady := m1.unsteady, fewBays := m1.fewBays || m2.fewBays, drift := m1.drift || m2.drift }
  | .present _ _, q => .absent (q.reasonOr .noChannel)
  | q, _ => .absent (q.reasonOr .noChannel)

/-- The results of a load part: both rails (R85, R97). -/
def State.loadResults (s : State) (p : LoadPart) : PerRail LoadResult :=
  match p.whole with
  | some r => ⟨absentLoad r, absentLoad r⟩
  | none =>
    let views (rail : Rail) := (p.bays.filter fun b => decide (b.rail = rail)).map s.bayView
    ⟨railLoad p.axle.unsteady (views .r1), railLoad p.axle.unsteady (views .r2)⟩

/-! ## Completion (R54, R97, R98) -/

/-- When the second part of axle `k` has completed, its status becomes DONE, its AXLE RESULT is offered and the
grouping unit is told, in that order (R54, R180). -/
def State.partDone (s : State) (k : Nat) : State :=
  if (s.loadPart? k).isSome ∨ (s.bearingPart? k).isSome then s
  else
    let s := { s.updRecord k (fun r => { r with status := .done }) with axles.inFlight := s.axles.inFlight - 1 }
    match s.record? k with
    | some r => (s.offerResult (.axleResult s.session.seq r)).axleMeasured k
    | none => s

/-- The immediate check of a load part against the critical limits (R98). -/
def loadCheckKinds (sc : SiteConstants) (l : PerRail LoadResult) (axleLoad : Quantity) : List AlertKind :=
  (if l.r1.increment.atLeast sc.impactCritical then [.s2] else []) ++
  (if l.r2.increment.atLeast sc.impactCritical then [.s2] else []) ++
  (if axleLoad.atLeast sc.axleLoadCritical then [.s3] else [])

/-- A load part completes: its results are written in one write, the checks are made and the tracker is told (R97). -/
def State.completeLoad (s : State) (p : LoadPart) : State :=
  let k := p.axle.ordinal
  let l := s.loadResults p
  let q := axleLoadOf l.r1.static l.r2.static
  let kinds := match s.site with
    | some sc => loadCheckKinds sc l q
    | none => []
  let s : State := { s with load.parts := s.load.parts.filter fun x => decide (x.axle.ordinal ≠ k) }
  ((s.updRecord k fun r => { r with load := l, axleLoad := q }).raiseAll (.axle s.session.seq k) kinds).partDone k

/-- LOAD_PART_COMPLETE (R97): a load part whose bays are all READ completes. -/
def execLoadPartComplete (dt : Time) (k : Nat) (s : State) : Host.Outcome State Fault Refusal :=
  match (s.advance dt).loadPart? k with
  | some p => if p.bays.all (·.read.isSome) then .next ((s.advance dt).completeLoad p) else .next (s.advance dt)
  | none => .next (s.advance dt)

/-! ## Bearing results (R112 to R115) -/

/-- The bearing peak of a rail from its scanner, if configured (R112). -/
def State.bearingPeak (s : State) (unsteady : Bool) (c : Option Scanner) : Quantity :=
  match c.bind fun c => c.read.map fun a => (c, a) with
  | none => .absent .noChannel
  | some (c, a) =>
    if a.unusable.isSome then .absent .noChannel
    else
      match a.window with
      | .stale => .absent .stale
      | .samples l _ =>
        if l.length < 3 then .absent .short
        else
          let conv (x : Sample) : Int :=
            match s.channel? c.index with
            | some e => tempOf e.offset e.gain x.raw
            | none => 0
          match maxInt (l.map conv) with
          | some m =>
            .present m { unsteady, peakClipped := l.any fun x => clippedRaw x.raw && decide (conv x = m) }
          | none => .absent .short

/-- The rise of a rail (R113). -/
def riseOf (peak : Quantity) (ambient : Option Int) : Quantity :=
  match peak, ambient with
  | .present v m, some a => .present (clamp 0 3000 (v - a)) m
  | .present _ _, none => .absent .noAmbient
  | q, _ => .absent (q.reasonOr .noChannel)

/-- The side difference (R113). -/
def sideDifference (r1 r2 : Quantity) : Quantity :=
  match r1, r2 with
  | .present x m1, .present y m2 =>
    .present (x - y).natAbs { unsteady := m1.unsteady, peakClipped := m1.peakClipped || m2.peakClipped }
  | .present _ _, q => .absent (q.reasonOr .noChannel)
  | q, _ => .absent (q.reasonOr .noChannel)

def absentBearing (r : Absence) : BearingResult := { peak := .absent r, rise := .absent r }

/-- The bearing results of both rails as the part formed them (R109, R112, R113). Where an axle-level test applies, a rail
with no configured scanner takes that test's reason too, as R109 has it, and not NO_CHANNEL, as R105 has it in every bearing
part: the model's choice (assumption 39). -/
def State.bearingResults (s : State) (p : BearingPart) : PerRail BearingResult :=
  match p.whole with
  | some r => ⟨absentBearing r, absentBearing r⟩
  | none =>
    let of (rail : Rail) : BearingResult :=
      let pk := s.bearingPeak p.axle.unsteady (p.scanners.find? fun c => decide (c.rail = rail))
      { peak := pk, rise := riseOf pk s.thermal.ambient.value }
    ⟨of .r1, of .r2⟩

/-- The bearing results at completion: absent NOT_SETTLED unless the settle state is SETTLED (R114). -/
def State.settledBearing (s : State) (p : BearingPart) : PerRail BearingResult :=
  if s.session.settleState = .settled then s.bearingResults p else ⟨absentBearing .notSettled, absentBearing .notSettled⟩

/-- The immediate check of a bearing part (R115). -/
def bearingCheckKinds (sc : SiteConstants) (b : PerRail BearingResult) : List AlertKind :=
  (if b.r1.rise.atLeast sc.bearingCritical then [.s1] else []) ++
  (if b.r2.rise.atLeast sc.bearingCritical then [.s1] else [])

/-- A bearing part completes (R114). -/
def State.completeBearing (s : State) (p : BearingPart) : State :=
  let k := p.axle.ordinal
  let b := s.settledBearing p
  let kinds := match s.site with
    | some sc => bearingCheckKinds sc b
    | none => []
  let s : State := { s with thermal.parts := s.thermal.parts.filter fun x => decide (x.axle.ordinal ≠ k) }
  ((s.updRecord k fun r => { r with bearing := b, sideDiff := sideDifference b.r1.rise b.r2.rise }).raiseAll
    (.axle s.session.seq k) kinds).partDone k

/-- BEARING_PART_COMPLETE (R114): a bearing part whose scanners are all READ completes. -/
def execBearingPartComplete (dt : Time) (k : Nat) (s : State) : Host.Outcome State Fault Refusal :=
  match (s.advance dt).bearingPart? k with
  | some p =>
    if p.scanners.all (·.read.isSome) then .next ((s.advance dt).completeBearing p) else .next (s.advance dt)
  | none => .next (s.advance dt)

/-! ## The ambient reference (R107) -/

/-- The newest 256 stored samples of a ring, less the clipped ones: the latch set (R107). -/
def latchSet (ring : List Sample) : List Sample :=
  (ring.drop (ring.length - 256)).filter fun x => !clippedRaw x.raw

/-- The ambient reference as it is latched at a session opening (R107, R108). -/
def State.ambientLatch (s : State) : Ambient :=
  match s.ambientIndex with
  | none => { latched := some s.clock }
  | some i =>
    if s.usable i then
      match s.channel? i with
      | some e =>
        let ts := (latchSet s.rings[i]).map fun x => tempOf e.offset e.gain x.raw
        if ts.length < 16 then { latched := some s.clock }
        else { value := some (roundDiv (sumInt ts) ts.length), count := ts.length, latched := some s.clock }
      | none => { latched := some s.clock }
    else { latched := some s.clock }

end Sys2Proof.Machine
end

