-- ==== Sys2Proof/Machine/Tracker.lean ====
section
/-!
DEFINITION. The axle tracker (chapter 3): count changes, measurement start with speed, plausibility, steadiness and
spacing (R16 to R18, R53), and the overdue mark.
-/

namespace Sys2Proof.Machine

def axleCapacity : Nat := 1024
def maxCount : Nat := 65535

def State.countMismatch (s : State) : State := { s with axles.mismatch := bump s.axles.mismatch }

/-! ## Speed, plausibility, steadiness and spacing (R16 to R18) -/

/-- The A-to-B speed; absent HEAD_DISAGREE with dt = 0 or on an overdue record (R16). -/
def axleSpeed (site : Option SiteConstants) (overdue : Bool) (dt : Time) : Quantity :=
  match site with
  | some sc => if dt = 0 ∨ overdue = true then .absent .headDisagree else .present (speedOver sc.lab dt.toNat) {}
  | none => .absent .headDisagree

/-- The plausibility test: head-disagreeing when the speed or vE is absent, or they differ by more than 25 % of vE
(R16, R17). -/
def disagrees (v vE : Quantity) : Bool :=
  match v, vE with
  | .present x _, .present e _ => decide (25 * e < (x - e).natAbs * 100)
  | _, _ => true

/-- The steadiness test (R17). -/
def isUnsteady (vE vX : Quantity) : Bool :=
  match vE, vX with
  | .present e _, .present x _ => decide (15 * (e + x) < (e - x).natAbs * 200)
  | _, _ => false

/-- The dt of a record usable for a spacing: formed, not head-disagreeing, not stopped (R18, R53). -/
def AxleRecord.usableDt (r : AxleRecord) : Option Nat :=
  match r.exitTime with
  | some tX => if r.headDisagree || r.stopFlag then none else some (tX - r.entryTime).toNat
  | none => none

/-- A spacing value from a distance, an interval and a pair's sum, rounded and clamped (R18). -/
def spacingValue (gap dist sum : Nat) : Int := clamp 0 65535 (roundDiv (gap * dist * 2) sum)

/-- The spacing of record `r` to the record before it (R18). -/
def spacingOf (site : Option SiteConstants) (prev r : AxleRecord) : Quantity :=
  let gap := (r.entryTime - prev.entryTime).toNat
  match site with
  | none => .absent .headDisagree
  | some sc =>
    match prev.usableDt, r.usableDt with
    | some d1, some d2 => .present (spacingValue gap sc.lab (d1 + d2)) {}
    | _, _ =>
      let c := prev.entryInterval.toNat + r.entryInterval.toNat
      if c = 0 then .absent .headDisagree else .present (spacingValue gap sc.coilSpacing c) { coilBased := true }

/-! ## Measurement start (R53) -/

/-- Steps 1 and 2 of R53 on a record, with its move to BEYOND_EXIT and status IN_FLIGHT. Step 2 makes the steadiness
test too where no speed is formed (R53 names no condition, R17 makes the tests "when v is formed"): the model's choice
(assumption 31). -/
def AxleRecord.exit (r : AxleRecord) (site : Option SiteConstants) (overdue : Bool) (x : Crossing) : AxleRecord :=
  let v := axleSpeed site overdue (x.time - r.entryTime)
  { r with
    position := .beyondExit
    status := .inFlight
    exitTime := some x.time
    exitInterval := some x.interval
    exitSpeed := x.speed
    speed := v
    headDisagree := disagrees v r.entrySpeed
    unsteady := isUnsteady r.entrySpeed x.speed }

/-- What the two parts take from a record at measurement start (R53, step 5). -/
def AxleRecord.data (r : AxleRecord) (tX : Time) (dir : Direction) (now : Time) : AxleData :=
  { ordinal := r.ordinal, tE := r.entryTime, tX, dt := tX - r.entryTime, speed := r.speed, stopFlag := r.stopFlag,
    headDisagree := r.headDisagree, unsteady := r.unsteady, dir, start := now }

/-- Both parts of a measurement begin (R53, step 5; R84, R109). -/
def State.beginParts (s : State) (a : AxleData) : State :=
  match s.site with
  | some sc =>
    { s with
      load.parts := s.load.parts ++ [s.newLoadPart sc a]
      thermal.parts := s.thermal.parts ++ [s.newBearingPart sc a] }
  | none => s

/-- The measurement of record `r` starts on the exit crossing `x` (R53). -/
def State.startMeasurement (s : State) (r : AxleRecord) (x : Crossing) : State :=
  let r1 := r.exit s.site (decide (r.ordinal ∈ s.axles.overdue)) x
  let r2 : AxleRecord := match s.record? (r.ordinal - 1) with
    | some p => if r.ordinal = 1 then r1 else { r1 with spacing := spacingOf s.site p r1 }
    | none => r1
  let s : State := { s.updRecord r.ordinal (fun _ => r2) with axles.inFlight := s.axles.inFlight + 1 }
  let s := s.beginParts (r2.data x.time (s.session.record.direction.getD .forward) s.clock)
  { s with group.notices := s.group.notices + 1 }

/-! ## Count changes (R46 to R52) -/

/-- The record created for ordinal `k` by the entry crossing `x` (R47). -/
def newRecord (k : Nat) (x : Crossing) : AxleRecord :=
  { ordinal := k, entryTime := x.time, entryInterval := x.interval, entrySpeed := x.speed }

/-- The high-water count rises to `k`: a record is created up to 1024, and the first rise above it truncates (R47,
R57). -/
def State.newOrdinal (s : State) (k : Nat) (x : Crossing) : State :=
  if k ≤ axleCapacity then
    { s with axles.highWater := k, axles.records := s.axles.records ++ [newRecord k x] }
  else if s.axles.truncated then { s with axles.highWater := k }
  else ({ s with axles.highWater := k, axles.truncated := true } : State).raise .t5 (.train s.session.seq)

/-- The entry count rises to `k` (R47). -/
def State.entryRise (s : State) (k : Nat) (x : Crossing) : State :=
  if s.axles.highWater < k then (s.newOrdinal k x).scheduleCamera k x
  else
    match s.record? k with
    | some r =>
      if r.position = .beforeEntry then
        s.updRecord k fun r => { r with position := .between, passCount := min (r.passCount + 1) 255 }
      else s.countMismatch
    | none => s

/-- The entry count falls from `k` (R48). -/
def State.entryFall (s : State) (k : Nat) : State :=
  match s.record? k with
  | some r =>
    if r.position = .between then s.updRecord k fun r => { r with position := .beforeEntry } else s.countMismatch
  | none => s

/-- The exit count rises to `k` (R49). -/
def State.exitRise (s : State) (k : Nat) (x : Crossing) : State :=
  if s.entryCount < k then s.countMismatch
  else
    match s.record? k with
    | some r =>
      if r.position = .between then
        if r.status = .none then s.startMeasurement r x
        else s.updRecord k fun r => { r with position := .beyondExit }
      else s.countMismatch
    | none => s

/-- The exit count falls from `k` (R50). -/
def State.exitFall (s : State) (k : Nat) : State :=
  match s.record? k with
  | some r =>
    if r.position = .beyondExit then s.updRecord k fun r => { r with position := .between } else s.countMismatch
  | none => if k ≤ axleCapacity then s.countMismatch else s

/-- STOPPED is entered: every record BETWEEN gets the stop flag (R29, R55). -/
def State.flagStopped (s : State) : State :=
  { s with axles.records := s.axles.records.map fun r => if r.position = .between then { r with stopFlag := true } else r }

/-- AXLE_OVERDUE (R53): a record of status NONE reaches its entry time plus 30 min. -/
def execAxleOverdue (dt : Time) (k : Nat) (s : State) : Host.Outcome State Fault Refusal :=
  let s := s.advance dt
  match s.record? k with
  | some r =>
    if r.status = .none ∧ reached s.clock (r.entryTime + micros halfHour) = true ∧ k ∉ s.axles.overdue then
      .next { s with axles.overdue := s.axles.overdue ++ [k] }
    else .next s
  | none => .next s

end Sys2Proof.Machine
end

