-- ==== Sys2Proof/Machine/Session.lean ====
section
/-!
DEFINITION. The session controller (chapter 2): opening a session, applying crossings, the timers' expiries, standby
and wake, approach inputs, and the rows by which it takes edges and crossings.
-/

namespace Sys2Proof.Machine

/-! ## Opening a session (R23) -/

/-- A session opens in state `st` (R23): the sequence number rises, the session record begins afresh, counts, Axle
Table and Vehicle List are reset, the ambient reference is latched, autozero is suspended, decimation and train raise
counts go to 0 and a transaction in the slot is ended. -/
def State.openSession (s : State) (st : SessionState) (noApproach : Bool) : State :=
  let seq := s.session.seq + 1
  ({ s with
      session :=
        { s.session.stopTimers with
          state := st
          seq := seq
          record := { seq, openTime := some s.clock, noApproach, incompleteStart := s.session.heldDiscarded,
                      notSettledStart := decide (s.session.settleState ≠ .settled) }
          entryHead := none
          reversalRaised := false
          arm := if st = .armed then s.armTimer else none
          standstill := if st = .inTrain then s.standstillTimer else none
          rememberedApproach := false
          heldDiscarded := false }
      heads := ⟨{ s.heads.a with count := 0 }, { s.heads.b with count := 0 }⟩
      axles := { tableSeq := seq }
      group := {}
      thermal.ambient := s.ambientLatch
      alert.trainRaises := .replicate 21 0
      port.decimation := .replicate 24 0 } : State).emptyBlocks.openEndsTransaction

/-! ## Applying a crossing (R14, R15, R27) -/

/-- The session direction of an entry head (R14). -/
def entryDirection : Head → Direction
  | .a => .forward
  | .b => .reverse

/-- The first crossing fixes entry head and direction; a mirrored one marks INCOMPLETE_START (R14, R32). -/
def State.fixEntry (s : State) (x : Crossing) : State :=
  { s with
    session.entryHead := some x.head
    session.record.direction := some (entryDirection x.head)
    session.record.firstCrossing := some x.time
    session.record.incompleteStart := s.session.record.incompleteStart || decide (x.dir ≠ entryDirection x.head) }

/-- The first crossing against the session raises T2 once (R14). -/
def State.noteReversal (s : State) (x : Crossing) : State :=
  if s.session.reversalRaised then s
  else ({ s with session.reversalRaised := true } : State).raise .t2 (.head s.session.seq x.head)

def State.setCount (s : State) (h : Head) (n : Nat) : State := s.setHead h { s.head h with count := n }

/-- The head count changes and the axle tracker takes the change (R15, R46). -/
def State.countCrossing (s : State) (x : Crossing) (withSession : Bool) : State :=
  let n := (s.head x.head).count
  let isEntry := decide (s.session.entryHead = some x.head)
  if withSession then
    if maxCount ≤ n then s
    else if isEntry then (s.setCount x.head (n + 1)).entryRise (n + 1) x
    else (s.setCount x.head (n + 1)).exitRise (n + 1) x
  else if n = 0 then s.headFault x.head
  else if isEntry then (s.setCount x.head (n - 1)).entryFall n
  else (s.setCount x.head (n - 1)).exitFall n

/-- IN_TRAIN is entered and the standstill timer starts; in IN_TRAIN the timer is started again (R26 to R28). -/
def State.enterInTrain (s : State) : State :=
  { s with session := { s.session.stopTimers with state := .inTrain, standstill := s.standstillTimer } }

/-- An exit crossing with the session starts or restarts the EXIT_PULSE condition (R147). -/
def State.requestExitPulse (s : State) : State := { s with gate.exitPulse := some s.clock }

/-- A crossing is read with the session when it is the first or has the session direction (R14). -/
def State.isWith (s : State) (x : Crossing) : Bool :=
  s.session.entryHead.isNone || decide (s.session.record.direction = some x.dir)

/-- A crossing is applied to the open session (R27). -/
def State.applyCrossing (s : State) (x : Crossing) : State :=
  let withSession := s.isWith x
  let s := if s.session.entryHead.isNone then s.fixEntry x else s
  let s := if withSession then s else s.noteReversal x
  let s := s.countCrossing x withSession
  let s := if withSession && decide (s.session.entryHead ≠ some x.head) then s.requestExitPulse else s
  ({ s with session.record.lastCrossing := some x.time } : State).enterInTrain

/-- A crossing taken in CLOSING is held; at 8 it is discarded with a head fault (R36). -/
def State.holdCrossing (s : State) (x : Crossing) : State :=
  if s.session.held.length < 8 then { s with session.held := s.session.held ++ [x] }
  else ({ s with session.heldDiscarded := true } : State).headFault x.head

/-! ## Standby and wake (R38, R39) -/

/-- STANDBY is entered (R38): HALT to every node, settle state WAITING, block accumulators emptied, crossings in progress
marked, so that the wake can tell them (R19, assumption 19). -/
def State.enterStandby (s : State) : State :=
  ({ s with
      session := { s.session.stopTimers with state := .standby, power := .standby, settle := none, settleState := .waiting }
      heads := ⟨s.heads.a.sleep, s.heads.b.sleep⟩ } : State).emptyBlocks.sendDown (.halt none)

/-- A wake, before the state after it is entered (R39): RESUME, a time mark at once, rings emptied, silence watch and settle
timer started, wake cause record written. Two points here are the model's choices. The wake time of R3's mark, from which
the marks after it follow, and of the last-frame times of R83 is the site-clock time at which the wake is taken, and not
`stamp`, the time of the edge or crossing that R39 records (assumption 37). RESUME and the mark become ready at the same
moment, and RESUME is put first (assumption 38). -/
def State.wake (s : State) (cause : WakeCause) (stamp : Time) : State :=
  ({ s with
      session.power := .active
      session.wakeCause := cause
      session.wakeTime := stamp
      session.settle := s.settleTimer
      session.settleState := .settling
      heads := ⟨s.heads.a.wake, s.heads.b.wake⟩
      rings := .replicate 24 []
      node.ready := s.node.ready ++ [.resume, .timeMark s.clock]
      node.nextMark := s.clock + micros (markInterval .active)
      node.nodes := Vec.map (fun e =>
        if e.status = .online ∨ e.status = .fault then { e with lastFrame := some s.clock } else e) s.node.nodes }
    : State).emptyBlocks

/-! ## Events taken by state -/

/-- A coil edge of time `t` is taken (R25 to R27, R35, R39). -/
def State.takeCoilEdge (s : State) (t : Time) : State :=
  match s.session.state with
  | .notReady | .armed | .closing => s
  | .standby => (s.wake .headEdge t).openSession .inTrain true
  | .idle => { s with session.idle := s.idleTimer }
  | .inTrain => { s with session.standstill := s.standstillTimer }
  | .stopped | .clearing => s.enterInTrain

/-- An emitted crossing is taken (R21, R25 to R27, R36, R39). One emitted while no Site Constants had ever been activated
is delivered and not applied (R13): it does nothing in any state, whatever has been activated since (assumption 27). -/
def State.takeCrossing (s : State) (x : Crossing) : State :=
  if x.unsited then s
  else match s.session.state with
  | .notReady => s
  | .standby => ((s.wake .headEdge x.time).openSession .inTrain true).applyCrossing x
  | .idle => (s.openSession .inTrain true).applyCrossing x
  | .armed | .inTrain | .stopped | .clearing => s.applyCrossing x
  | .closing => s.holdCrossing x

def wakeCauseOf : Approach → WakeCause
  | .apr1 => .approach1
  | .apr2 => .approach2

/-- An approach edge stamped `t` is taken (R22, R35, R39). -/
def State.takeApproach (s : State) (i : Approach) (t : Time) : State :=
  match s.session.state with
  | .notReady | .armed | .inTrain | .stopped | .clearing => s
  | .standby => (s.wake (wakeCauseOf i) t).openSession .armed false
  | .idle => s.openSession .armed false
  | .closing => { s with session.rememberedApproach := true }

/-- COIL_EDGE: the session controller takes the oldest committed edge of a coil line (R13, R27). -/
def execCoilEdge (dt : Time) (h : Head) (c : Coil) (s : State) : Host.Outcome State Fault Refusal :=
  let s := s.advance dt
  match ((s.head h).line c).toSession with
  | [] => .next s
  | t :: rest =>
    .next ((s.setHead h ((s.head h).setLine c { (s.head h).line c with toSession := rest })).takeCoilEdge t)

/-- CROSSING: the session controller takes the oldest emitted crossing of a head (R13, R27). -/
def execCrossing (dt : Time) (h : Head) (s : State) : Host.Outcome State Fault Refusal :=
  let s := s.advance dt
  match (s.head h).emitted with
  | [] => .next s
  | x :: rest => .next ((s.setHead h { s.head h with emitted := rest }).takeCrossing x)

/-! ## Approach inputs (R22) -/

/-- The length of a qualification [µs]. -/
def qualifyTime : Nat := 5000

/-- A qualification that is complete at the present time, with the time the pin changed. -/
def State.dueApproach (s : State) (i : Approach) : Option Time :=
  match (s.session.approach i).since with
  | some t => if reached s.clock (t + micros qualifyTime) then some t else none
  | none => none

/-- A qualification begun at `t` completes: the qualified level takes the pin's, and an assertion is an approach edge
(R22). -/
def State.qualify (s : State) (i : Approach) (t : Time) : State :=
  let a := s.session.approach i
  let s := s.setApproach i { a with qualified := a.pin, since := none }
  if a.pin then s.takeApproach i t else s

/-- The pin of an approach input takes a level (R22). -/
def State.setApproachPin (s : State) (i : Approach) (lvl : Bool) : State :=
  let a := s.session.approach i
  s.setApproach i { a with pin := lvl, since := if lvl = a.qualified then none else some s.clock }

/-- APPROACH_PIN_CHANGE (R22): a qualification that has run its 5000 µs completes before the change counts. -/
def execApproachPinChange (dt : Time) (i : Approach) (asserted : Bool) (s : State) : Host.Outcome State Fault Refusal :=
  let s := s.advance dt
  if (s.session.approach i).pin = asserted then .next s
  else
    match s.dueApproach i with
    | some t => .next ((s.qualify i t).setApproachPin i asserted)
    | none => .next (s.setApproachPin i asserted)

/-- APPROACH_EDGE (R22). -/
def execApproachEdge (dt : Time) (i : Approach) (s : State) : Host.Outcome State Fault Refusal :=
  match (s.advance dt).dueApproach i with
  | some t => .next ((s.advance dt).qualify i t)
  | none => .next (s.advance dt)

/-! ## Timer expiries (R26, R28 to R30, R38, R41) -/

/-- The close operation starts with a closure (R33). -/
def State.startClose (s : State) (c : Closure) : State :=
  { s with
    session :=
      { s.session.stopTimers with
        state := .closing
        record := { s.session.record with closure := some c, closeStart := some s.clock } } }

/-- ARM_EXPIRY (R26): the session ends as a false approach. -/
def execArmExpiry (dt : Time) (s : State) : Host.Outcome State Fault Refusal :=
  let s := s.advance dt
  if s.session.state = .armed ∧ expired s.clock s.session.arm = true then
    let s := s.raise .t8 (.train s.session.seq)
    .next ({ s with session.falseApproaches := bump s.session.falseApproaches } : State).enterIdle
  else .next s

/-- STOPPED is entered (R29). -/
def State.enterStopped (s : State) : State :=
  (({ s with session := { s.session.stopTimers with state := .stopped, abandon := s.abandonTimer } } : State).flagStopped).raise
    .t3 (.train s.session.seq)

/-- STANDSTILL_EXPIRY (R28): CLEARING when the site is cleared, STOPPED otherwise. -/
def execStandstillExpiry (dt : Time) (s : State) : Host.Outcome State Fault Refusal :=
  let s := s.advance dt
  if s.session.state = .inTrain ∧ expired s.clock s.session.standstill = true then
    if s.entryCount = s.exitCount then
      .next { s with session := { s.session.stopTimers with state := .clearing, clear := s.clearTimer } }
    else .next s.enterStopped
  else .next s

/-- CLEAR_EXPIRY (R30). -/
def execClearExpiry (dt : Time) (s : State) : Host.Outcome State Fault Refusal :=
  let s := s.advance dt
  if s.session.state = .clearing ∧ expired s.clock s.session.clear = true then
    .next (s.startClose (if s.entryCount = 0 then .withdrawn else .normal))
  else .next s

/-- ABANDON_EXPIRY (R29). -/
def execAbandonExpiry (dt : Time) (s : State) : Host.Outcome State Fault Refusal :=
  let s := s.advance dt
  if s.session.state = .stopped ∧ expired s.clock s.session.abandon = true then
    .next ((s.startClose .abandoned).raise .t4 (.train s.session.seq))
  else .next s

/-- IDLE_EXPIRY (R25, R38). -/
def execIdleExpiry (dt : Time) (s : State) : Host.Outcome State Fault Refusal :=
  let s := s.advance dt
  if s.session.state = .idle ∧ expired s.clock s.session.idle = true then .next s.enterStandby else .next s

/-- SETTLE_EXPIRY (R41). -/
def execSettleExpiry (dt : Time) (s : State) : Host.Outcome State Fault Refusal :=
  let s := s.advance dt
  if s.session.settleState = .settling ∧ expired s.clock s.session.settle = true then
    .next { s with session.settle := none, session.settleState := .settled }
  else .next s

end Sys2Proof.Machine
end

