-- ==== Sys2Proof/Machine/Tables.lean ====
section
/-!
DEFINITION. The table store (sections 10.5 and 10.6): reading table entries from their bytes with the range checks,
the cross-field checks, activation, the two banks and step 7 of the close operation.
-/

namespace Sys2Proof.Machine

/-! ## Sizes (Table 11.6) -/

def tableEntries : Nat → Nat
  | 0 => 1 | 1 => 24 | 2 => 1 | 3 => 64 | 4 => 16 | _ => 0

def entrySize : Nat → Nat
  | 0 => 70 | 1 => 12 | 2 => 6 | 3 => 22 | 4 => 20 | _ => 0

/-! ## Entries from bytes (Tables 11.7 and 11.8, R171 check 3) -/

def within (lo hi n : Nat) : Bool := decide (lo ≤ n ∧ n ≤ hi)

/-- A position or bay start; FFFFh is none. -/
def positionOf (n : Nat) : Option Nat := if n = 65535 then none else some n

/-- A position that is none, or in 200..19800. -/
def positionOk : Option Nat → Bool
  | none => true
  | some n => within 200 19800 n

def gateActionOf : Nat → Option GateAction
  | 0 => some .forcedLow | 1 => some .activeLow | 2 => some .activeHigh | 3 => some .forcedHigh | _ => none

def g3SourceOf : Nat → Option G3Source
  | 0 => some .none | 1 => some .sessionOpen | 2 => some .anySPending | 3 => some .exitPulse | _ => none

def boolOf : Nat → Option Bool
  | 0 => some false | 1 => some true | _ => none

/-- The ranges of Tables 1.1, 2.2, 5.1, 6.1, 7.1 and 8.1. -/
def SiteConstants.inRange (c : SiteConstants) : Bool :=
  within 2000 20000 c.lab && within 20 250 c.coilSpacing && within 10 500 c.minPulse && within 2 60 c.standstill &&
  within 2 60 c.clear && within 1 30 c.abandon && within 1 60 c.settle && within 10 600 c.arm && within 30 1800 c.idle &&
  within 100 1500 c.bayLength && c.bayStart.r1.toList.all positionOk && c.bayStart.r2.toList.all positionOk &&
  within 20 90 c.core && within 20 200 c.halfWindow && within 50 400 c.minSpeed && within 400 1600 c.maxSpeed &&
  within 100 13000 c.impactCritical && within 200 26000 c.axleLoadCritical && positionOk c.scanner.r1 &&
  positionOk c.scanner.r2 && within 100 3000 c.bearingCritical && within 1000 6000 c.unclassifiedGap &&
  within 100 10000 c.cameraWidth

/-- A Site Constants record with every field in its range. -/
def parseSite (b : List Byte) : Option SiteConstants :=
  match gateActionOf (u8 b 60), gateActionOf (u8 b 61), gateActionOf (u8 b 62), gateActionOf (u8 b 63),
    g3SourceOf (u8 b 64), boolOf (u8 b 65) with
  | some g0, some g1, some g2, some g3, some src, some live =>
    let c : SiteConstants :=
      { siteId := u16 b 0, lab := u16 b 2, coilSpacing := u16 b 4, minPulse := u16 b 6, standstill := u8 b 8,
        clear := u8 b 9, abandon := u8 b 10, settle := u8 b 11, arm := u16 b 12, idle := u16 b 14,
        bayLength := u16 b 16,
        bayStart := ⟨Vector.ofFn fun i => positionOf (u16 b (18 + 2 * i.val)),
                     Vector.ofFn fun i => positionOf (u16 b (30 + 2 * i.val))⟩,
        core := u8 b 42, halfWindow := u8 b 43, minSpeed := u16 b 44, maxSpeed := u16 b 46, impactCritical := u16 b 48,
        axleLoadCritical := u16 b 50, scanner := ⟨positionOf (u16 b 52), positionOf (u16 b 54)⟩,
        bearingCritical := u16 b 56, unclassifiedGap := u16 b 58, gates := #v[g0, g1, g2, g3], g3 := src,
        liveResults := live, camera := positionOf (u16 b 66), cameraWidth := u16 b 68 }
    if c.inRange then some c else none
  | _, _, _, _, _, _ => none

def channelKindOf : Nat → Option ChannelKind
  | 0 => some .load | 1 => some .bearing | 2 => some .ambient | _ => none

def forwardModeOf : Nat → Option ForwardMode
  | 0 => some .never | 1 => some .session | 2 => some .always | 3 => some .decimate | _ => none

/-- An entry by its valid byte: 0 keeps the bytes unchecked, 1 asks for every field in range. Any other value of the byte,
for which the spec has no code, is out of range: the model's choice (assumption 16). -/
def parseEntry {α : Type} (f : List Byte → Option α) (b : List Byte) : Option (Entry α) :=
  match u8 b 0 with
  | 0 => some (.notValid b)
  | 1 => (f b).map .valid
  | _ => none

/-- A valid Channel Table entry (Tables 4.2, 5.2; R171). -/
def parseChannel (b : List Byte) : Option Channel :=
  match channelKindOf (u8 b 3), forwardModeOf (u8 b 6) with
  | some kind, some forward =>
    if h : 1 ≤ u8 b 1 ∧ u8 b 1 ≤ 6 then
      let e : Channel :=
        { node := ⟨u8 b 1 - 1, by omega⟩, channel := u8 b 2, kind, rail := u8 b 4, bay := u8 b 5, forward,
          decimation := u8 b 7, offset := (half b 8).toInt, gain := u16 b 10 }
      if decide (e.channel ≤ 7) && (decide (kind = .ambient) || within 1 2 e.rail) &&
          (if kind = .load then within 1 6 e.bay else decide (e.bay = 0)) &&
          (decide (forward ≠ .decimate) || within 2 64 e.decimation) then some e
      else none
    else none
  | _, _ => none

def parseBands (b : List Byte) : Option SpeedBands :=
  if within 10 2000 (u16 b 0) && within 10 2000 (u16 b 2) && within 10 2000 (u16 b 4) then
    some { b1 := u16 b 0, b2 := u16 b 2, b3 := u16 b 4 }
  else none

/-- The seven spacing slots of a Pattern Table entry. -/
def spacingSlots (b : List Byte) : List Nat := [u16 b 8, u16 b 10, u16 b 12, u16 b 14, u16 b 16, u16 b 18, u16 b 20]

/-- The spacing list of a valid Pattern Table entry holds n - 1 values (section 11.3, R171 check 1); it is asked of entries
with a valid byte of 1 alone. With n = 0, where n - 1 means nothing, the list is read as empty: an entry whose slots are all
0 passes, and is refused RANGE by check 3. Both are the model's choice (assumption 16). -/
def spacingListOk (b : List Byte) : Bool :=
  decide (u8 b 0 ≠ 1) ||
    (decide (u8 b 2 ≤ 8) && ((spacingSlots b).take (u8 b 2 - 1)).all (· ≠ 0) &&
      ((spacingSlots b).drop (u8 b 2 - 1)).all (· = 0))

/-- A valid Pattern Table entry (R119). -/
def parsePattern (b : List Byte) : Option Pattern :=
  let p : Pattern :=
    { cls := u8 b 1, n := u8 b 2, set := u8 b 3, tolerance := u16 b 4, gap := u16 b 6,
      spacings := (spacingSlots b).take (u8 b 2 - 1) }
  if within 1 255 p.cls && within 2 8 p.n && decide (p.set ≤ 15) && within 10 500 p.tolerance && within 500 10000 p.gap &&
      p.spacings.all (within 500 25000) then some p
  else none

/-- A valid threshold set (R121). -/
def parseThreshold (b : List Byte) : Option Threshold :=
  let t : Threshold :=
    { imbalance := u8 b 1, impact := #v[u16 b 2, u16 b 4, u16 b 6, u16 b 8], ratio := u16 b 10, axleLoad := u16 b 12,
      rise := u16 b 14, difference := u16 b 16, outlierMargin := u16 b 18 }
  if within 1 50 t.imbalance && t.impact.toList.all (within 50 13000) && within 100 400 t.ratio &&
      within 200 26000 t.axleLoad && within 50 3000 t.rise && within 50 3000 t.difference &&
      within 20 1000 t.outlierMargin then some t
  else none

/-! ## Cross-field checks (R171 check 4) -/

/-- A stretch lies inside [200, L_AB - 200]. -/
def inZone (lab x len : Nat) : Bool := decide (200 ≤ x ∧ x + len + 200 ≤ lab)

/-- The bays of one rail lie in the zone and do not overlap. -/
def railBaysOk (lab len : Nat) : List (Option Nat) → Bool
  | [] => true
  | none :: l => railBaysOk lab len l
  | some x :: l =>
    inZone lab x len && (l.all fun y => match y with
      | none => true
      | some y => decide (x + len ≤ y ∨ y + len ≤ x)) && railBaysOk lab len l

def scannerOk (lab : Nat) : Option Nat → Bool
  | none => true
  | some x => inZone lab x 0

/-- The cross-field checks of Site Constants. -/
def SiteConstants.crossOk (c : SiteConstants) : Bool :=
  railBaysOk c.lab c.bayLength c.bayStart.r1.toList && railBaysOk c.lab c.bayLength c.bayStart.r2.toList &&
  scannerOk c.lab c.scanner.r1 && scannerOk c.lab c.scanner.r2 &&
  (match c.camera with
    | none => true
    | some x => decide (x ≤ c.lab)) && decide (c.minSpeed < c.maxSpeed)

/-- Two valid Channel Table entries that may not stand together. -/
def Channel.conflicts (e f : Channel) : Bool :=
  decide ((e.node = f.node ∧ e.channel = f.channel) ∨
    (e.kind = .load ∧ f.kind = .load ∧ e.rail = f.rail ∧ e.bay = f.bay) ∨
    (e.kind = .bearing ∧ f.kind = .bearing ∧ e.rail = f.rail) ∨ (e.kind = .ambient ∧ f.kind = .ambient))

/-- The active entries overlaid by the pending ones and then by a load from index `first` on. -/
def State.overlay (s : State) (first : Nat) (l : List (Entry Channel)) (i : ChanIdx) : Entry Channel :=
  if first ≤ i.val then
    match l[i.val - first]? with
    | some e => e
    | none => (s.tables.pending.channels[i]).getD s.tables.active.channels[i]
  else (s.tables.pending.channels[i]).getD s.tables.active.channels[i]

def Entry.valid? {α : Type} : Entry α → Option α
  | .valid e => some e
  | _ => none

/-- An index that takes part in a failed cross-field check of the Channel Table. -/
def channelInvolved (v : ChanIdx → Entry Channel) (i : ChanIdx) : Bool :=
  match (v i).valid? with
  | none => false
  | some e =>
    (decide (e.kind ≠ .load ∧ 3 < e.channel)) ||
      allChannels.any fun j => decide (j ≠ i) && (match (v j).valid? with
        | some f => e.conflicts f
        | none => false)

/-! ## LOAD TABLE (R171) -/

/-- A load that passed its checks. -/
inductive TableLoad where
  | site (c : SiteConstants)
  | channels (first : Nat) (l : List (Entry Channel))
  | bands (b : SpeedBands)
  | patterns (first : Nat) (l : List (Entry Pattern))
  | thresholds (first : Nat) (l : List (Entry Threshold))
deriving DecidableEq, Repr

/-- The outcome of the checks of R171. -/
inductive LoadVerdict where
  | badLength
  | range (index : Nat)
  | ok (l : TableLoad)
deriving DecidableEq, Repr

/-- `n` runs of `size` bytes. -/
def chunks (size : Nat) : Nat → List Byte → List (List Byte)
  | 0, _ => []
  | n + 1, l => l.take size :: chunks size n (l.drop size)

/-- Every entry parsed, or the index of the first that fails. -/
def parseAll {α : Type} (f : List Byte → Option α) : Nat → List (List Byte) → Except Nat (List α)
  | _, [] => .ok []
  | i, b :: l =>
    match f b with
    | none => .error i
    | some x =>
      match parseAll f (i + 1) l with
      | .ok xs => .ok (x :: xs)
      | .error j => .error j

/-- Checks 3 and 4 on the entries of a load. Where several cross-field checks of the Channel Table fail at once, the index
answered is the lowest that takes part in any of them: the model's choice (assumption 16). -/
def State.checkEntries (s : State) (id first : Nat) (bs : List (List Byte)) : LoadVerdict :=
  match id with
  | 0 =>
    match parseAll parseSite first bs with
    | .ok [c] => if c.crossOk then .ok (.site c) else .range 0
    | _ => .range 0
  | 1 =>
    match parseAll (parseEntry parseChannel) first bs with
    | .ok l =>
      match allChannels.find? (channelInvolved (s.overlay first l)) with
      | some i => .range i.val
      | none => .ok (.channels first l)
    | .error i => .range i
  | 2 =>
    match parseAll parseBands first bs with
    | .ok [b] => if b.b1 < b.b2 ∧ b.b2 < b.b3 then .ok (.bands b) else .range 0
    | _ => .range 0
  | 3 =>
    match parseAll (parseEntry parsePattern) first bs with
    | .ok l => .ok (.patterns first l)
    | .error i => .range i
  | _ =>
    match parseAll (parseEntry parseThreshold) first bs with
    | .ok l => .ok (.thresholds first l)
    | .error i => .range i

/-- The checks of a LOAD TABLE's arguments, in the order of R171. A table id above 4 has no entry size, so that check 1
cannot find count and payload to disagree; the load is refused by check 2 with index 0 whatever its length: the model's
choice (assumption 16). -/
def State.checkLoad (s : State) (args : List Byte) : LoadVerdict :=
  let id := u8 args 0
  let first := u8 args 1
  let n := u8 args 2
  let bs := chunks (entrySize id) n (args.drop 3)
  if args.length < 3 ∨ n = 0 ∨ (id ≤ 4 ∧ args.length ≠ 3 + n * entrySize id) ∨ (id = 3 ∧ bs.all spacingListOk = false) then
    .badLength
  else if 4 < id ∨ tableEntries id < first + n ∨ ((id = 0 ∨ id = 2) ∧ first ≠ 0) then .range 0
  else s.checkEntries id first bs

/-! ## Activation (R172) -/

/-- Site Constants activated: NOT_READY moves to IDLE (R21); the gates follow by R145. -/
def State.activateSite (s : State) (c : SiteConstants) : State :=
  let s : State := { s with tables.active.site := some c }
  if s.session.state = .notReady then s.enterIdle else s

/-- A Channel Table index activated: its ring, tracked offset, DRIFT mark and decimation count start afresh (R80, R99,
R168). -/
def State.activateChannel (s : State) (i : ChanIdx) (e : Entry Channel) : State :=
  { s with
    tables.active.channels := s.tables.active.channels.set i e
    rings := s.rings.set i []
    load.zero := s.load.zero.set i (freshZero e)
    port.decimation := s.port.decimation.set i 0 }

/-- Entries written to the active bank from index `i` on, each activated, with the pending entries there removed
(R172). -/
def State.writeChannels (s : State) : Nat → List (Entry Channel) → State
  | _, [] => s
  | i, e :: l =>
    if h : i < 24 then
      ({ s.activateChannel ⟨i, h⟩ e with tables.pending.channels := s.tables.pending.channels.set i none } : State).writeChannels
        (i + 1) l
    else s

/-- A vector with the entries of a list written from index `i` on. -/
def Vec.write {α : Type} {n : Nat} (v : Vector α n) : Nat → List α → Vector α n
  | _, [] => v
  | i, x :: l => if h : i < n then Vec.write (v.set i x) (i + 1) l else v

/-- A checked load written to the active bank (R172, no session open). -/
def State.writeActive (s : State) : TableLoad → State
  | .site c => { s.activateSite c with tables.pending.site := none }
  | .channels first l => s.writeChannels first l
  | .bands b => { s with tables.active.bands := b, tables.pending.bands := none }
  | .patterns first l =>
    { s with
      tables.active.patterns := Vec.write s.tables.active.patterns first l
      tables.pending.patterns := Vec.write s.tables.pending.patterns first (l.map fun _ => none) }
  | .thresholds first l =>
    { s with
      tables.active.thresholds := Vec.write s.tables.active.thresholds first l
      tables.pending.thresholds := Vec.write s.tables.pending.thresholds first (l.map fun _ => none) }

/-- A checked load written to the pending bank (R172, a session open). -/
def State.writePending (s : State) : TableLoad → State
  | .site c => { s with tables.pending.site := some c }
  | .channels first l => { s with tables.pending.channels := Vec.write s.tables.pending.channels first (l.map some) }
  | .bands b => { s with tables.pending.bands := some b }
  | .patterns first l => { s with tables.pending.patterns := Vec.write s.tables.pending.patterns first (l.map some) }
  | .thresholds first l => { s with tables.pending.thresholds := Vec.write s.tables.pending.thresholds first (l.map some) }

/-- The pending Channel Table entries of a list of indices activated, in order. -/
def State.applyChannels (s : State) : List ChanIdx → State
  | [] => s
  | i :: l =>
    match s.tables.pending.channels[i] with
    | some e => (s.activateChannel i e).applyChannels l
    | none => s.applyChannels l

/-- A table with its pending entries written over the active ones. -/
def overlayBank {α : Type} {n : Nat} (active : Vector α n) (pending : Vector (Option α) n) : Vector α n :=
  Vector.ofFn fun i => (pending[i]).getD active[i]

/-- Step 7 of the close operation: every pending entry is written to the active bank and activated, and the pending
bank is left empty (R172). -/
def State.applyPending (s : State) : State :=
  let s := match s.tables.pending.site with
    | some c => s.activateSite c
    | none => s
  let s := s.applyChannels allChannels
  { s with
    tables.active.bands := s.tables.pending.bands.getD s.tables.active.bands
    tables.active.patterns := overlayBank s.tables.active.patterns s.tables.pending.patterns
    tables.active.thresholds := overlayBank s.tables.active.thresholds s.tables.pending.thresholds
    tables.pending := {} }

/-! ## READ TABLE (R173) -/

/-- `n` free bytes, and the state that remembers they were drawn. -/
def State.drawBytes (s : State) : Nat → List Byte × State
  | 0 => ([], s)
  | n + 1 => ((s.drawByte.2.drawBytes n).1.cons s.drawByte.1, (s.drawByte.2.drawBytes n).2)

/-- An entry of a table with a valid field as READ TABLE sends it; the bytes after the valid byte of an entry never
loaded are free (assumption 12). -/
def State.entryBytes {α : Type} (s : State) (size : Nat) (f : α → List Byte) : Entry α → List Byte × State
  | .neverLoaded => ((s.drawBytes (size - 1)).1.cons 0, (s.drawBytes (size - 1)).2)
  | .notValid raw => (raw, s)
  | .valid e => (f e, s)

/-- A run of entries of the active bank. -/
def State.activeRun {α : Type} (s : State) (size : Nat) (f : α → List Byte) : List (Entry α) → List Byte × State
  | [] => ([], s)
  | e :: l =>
    let r := s.entryBytes size f e
    let r' := r.2.activeRun size f l
    (r.1 ++ r'.1, r'.2)

/-- A run of entries of the pending bank: each marked by a presence byte (assumption 13). -/
def State.pendingRun {α : Type} (s : State) (size : Nat) (f : α → List Byte) : List (Option (Entry α)) → List Byte × State
  | [] => ([], s)
  | none :: l => let r := s.pendingRun size f l; (le1 0 ++ r.1, r.2)
  | some e :: l =>
    let r := s.entryBytes size f e
    let r' := r.2.pendingRun size f l
    (le1 1 ++ r.1 ++ r'.1, r'.2)

/-- The entries `first` to `first + n - 1` of a table in a bank, as bytes (R173). Site Constants, which has no valid field,
is sent after a presence byte from the active bank too: 0 alone while never loaded (assumption 13). -/
def State.readEntries (s : State) (id first n : Nat) (pending : Bool) : List Byte × State :=
  let cut {α : Type} (l : List α) : List α := (l.drop first).take n
  match id, pending with
  | 0, false => (optional SiteConstants.bytes s.tables.active.site, s)
  | 0, true => (optional SiteConstants.bytes s.tables.pending.site, s)
  | 1, false => s.activeRun 12 Channel.bytes (cut s.tables.active.channels.toList)
  | 1, true => s.pendingRun 12 Channel.bytes (cut s.tables.pending.channels.toList)
  | 2, false => (s.tables.active.bands.bytes, s)
  | 2, true => (optional SpeedBands.bytes s.tables.pending.bands, s)
  | 3, false => s.activeRun 22 Pattern.bytes (cut s.tables.active.patterns.toList)
  | 3, true => s.pendingRun 22 Pattern.bytes (cut s.tables.pending.patterns.toList)
  | _, false => s.activeRun 20 Threshold.bytes (cut s.tables.active.thresholds.toList)
  | _, true => s.pendingRun 20 Threshold.bytes (cut s.tables.pending.thresholds.toList)

end Sys2Proof.Machine
end

