-- ==== Sys2Proof/Machine/Reports.lean ====
section
/-!
DEFINITION. The close operation (R33, R37) and the report unit (chapter 9): slot choice, the copy, the install, the
directory, the readout engine and release.
-/

namespace Sys2Proof.Machine

/-! ## Slot choice and copy (R153 to R155) -/

def allSlots : List (Fin 4) := [0, 1, 2, 3]

/-- A slot is in readout while a RUNNING engine names it (section 9.5). -/
def ReportUnit.inReadout (r : ReportUnit) (i : Fin 4) : Bool :=
  match r.engine with
  | some e => decide (e.slot = i)
  | none => false

/-- The age rank of a slot, from 1 for the oldest; none when it is EMPTY (R152). -/
def ReportUnit.rank (r : ReportUnit) (i : Fin 4) : Option Nat :=
  if i ∈ r.order then some (r.order.idxOf i + 1) else none

/-- The oldest slot in a state that is not in readout (R155, rules 2 and 3). -/
def ReportUnit.oldest (r : ReportUnit) (st : SlotState) : Option (Fin 4) :=
  r.order.find? fun i => decide ((r.slots[i]).state = st) && !r.inReadout i

/-- The slot chosen for a report: the first rule of R155 that finds one. -/
def ReportUnit.choose (r : ReportUnit) : Option (Fin 4) :=
  match allSlots.find? fun i => decide ((r.slots[i]).state = .empty) with
  | some i => some i
  | none =>
    match r.oldest .released with
    | some i => some i
    | none => r.oldest .held

/-- The report header formed from the present state (R153). -/
def State.formHeader (s : State) : ReportHeader :=
  { record := s.session.record
    siteId := s.constant (·.siteId) 0
    truncated := s.axles.truncated
    entryCount := s.entryCount
    exitCount := s.exitCount
    highWater := s.axles.highWater
    mismatch := s.axles.mismatch
    axleCount := s.axles.records.length
    vehicleCount := s.group.vehicles.length
    ambient := s.thermal.ambient
    summary := s.alert.trainRaises }

/-- Close step 4: unequal counts raise T1 and set COUNT_MISMATCH (R33). -/
def State.closeCounts (s : State) : State :=
  if s.entryCount = s.exitCount then s
  else ({ s with session.record.countMismatch := true } : State).raise .t1 (.train s.session.seq)

/-- Close step 5 begins: a slot is chosen and marked, the header formed and the records copied (R153 to R155). -/
def State.beginCopy (s : State) : State :=
  match s.report.choose with
  | none => s
  | some i =>
    { s with
      report.slots := s.report.slots.set i { s.report.slots[i] with writing := true }
      report.copy := some (i, ⟨s.formHeader, s.axles.records, s.group.vehicles⟩) }

/-- No axle record has measurement status IN_FLIGHT (R33, step 1). -/
def State.measurementsDone (s : State) : Bool := s.axles.records.all fun r => decide (r.status ≠ .inFlight)

/-- CLOSE_MEASUREMENTS_DONE (R33 steps 2 to 4, R155). Notices still waiting are served by the end-of-train run
(assumption 17). -/
def execCloseMeasurementsDone (dt : Time) (s : State) : Host.Outcome State Fault Refusal :=
  let s := s.advance dt
  if s.session.state = .closing ∧ s.report.copy = none ∧ s.measurementsDone = true then
    .next (({ s with group.notices := 0 } : State).closeVehicles.closeOutliers.closeCounts).beginCopy
  else .next s

/-! ## Install and completion (R37, R156) -/

/-- A copied record as the report holds it: a camera outcome written during the copy is in it or not, by a free value
(R154; assumption 18). -/
def State.copiedRecord (s : State) (r : AxleRecord) : AxleRecord :=
  match s.record? r.ordinal with
  | some now =>
    if now.camera = r.camera then r
    else if Config.copiedLate (s.freeCount + r.ordinal) then { r with camera := now.camera } else r
  | none => r

/-- The axle records of a copy settled, with the free values drawn for them. -/
def State.settleCopy (s : State) (rep : Report) : Report × State :=
  ({ rep with axles := rep.axles.map s.copiedRecord }, { s with freeCount := s.freeCount + axleCapacity + 1 })

/-- The old report of a HELD slot is lost: counted, with T7 (R156). -/
def State.loseOld (s : State) (i : Fin 4) : State :=
  match (s.report.slots[i]).state, (s.report.slots[i]).report with
  | .held, some old =>
    ({ s with report.lost := bump s.report.lost } : State).raise .t7 (.train old.header.record.seq)
  | _, _ => s

/-- The new report takes the slot as the newest (R156). -/
def State.putReport (s : State) (i : Fin 4) (rep : Report) : State :=
  { s with
    report.slots := s.report.slots.set i { state := .held, report := some rep, writing := false }
    report.order := (s.report.order.filter (· ≠ i)) ++ [i]
    report.closed := bump s.report.closed
    report.copy := none }

/-- Step 5 ends (R156). -/
def State.install (s : State) (i : Fin 4) (rep : Report) : State := (s.loseOld i).putReport i rep

/-- Step 6: the TRAIN END result frame (R33, R169). -/
def State.trainEndFrame (s : State) (i : Fin 4) : OutFrame :=
  .trainEnd s.session.record.seq s.session.record.closure s.entryCount s.exitCount s.axles.records.length
    s.group.vehicles.length i

/-- Held crossings applied in the order they arrived (R37). -/
def State.applyAll (s : State) : List Crossing → State
  | [] => s
  | x :: l => (s.applyCrossing x).applyAll l

/-- The close operation completes (R37): IDLE, or a new session with the held crossings applied. -/
def State.completeClose (s : State) : State :=
  let held := s.session.held
  let s' : State := { s with session.held := [] }
  match s.session.rememberedApproach, held with
  | false, [] => s'.enterIdle
  | true, _ => (s'.openSession .armed false).applyAll held
  | false, _ :: _ => (s'.openSession .inTrain true).applyAll held

/-- REPORT_COPY_COMPLETE (R33 steps 5 to 7, R37, R156). -/
def execReportCopyComplete (dt : Time) (s : State) : Host.Outcome State Fault Refusal :=
  let s := s.advance dt
  match s.report.copy with
  | some (i, rep) =>
    if s.session.state = .closing then
      let r := s.settleCopy rep
      let t := r.2.install i r.1
      .next ((t.offerResult (t.trainEndFrame i)).applyPending.completeClose)
    else .next s
  | none => .next s

/-! ## The readout engine (R158 to R160) -/

/-- The records a REPORT DATA frame carries at most. -/
def recordsPerFrame : Nat := 8

/-- The records of a section, index 1 first. -/
def Report.records (r : Report) : Section → List ReportRecord
  | .header => [.header r.header]
  | .axles => r.axles.map .axle
  | .vehicles => r.vehicles.map .vehicle

/-- How a readout ended (R159, R160, R162). -/
inductive ReadoutEnd where
  | complete | aborted | reset
deriving DecidableEq, Repr

def ReadoutEnd.code : ReadoutEnd → Nat
  | .complete => 0 | .aborted => 1 | .reset => 2

/-- Granted, delivered and remaining, as a reply carries them. -/
def countBytes (granted delivered : Nat) : List Byte := le2 granted ++ le2 delivered ++ le2 (granted - delivered)

/-- The REPLY of a READ REPORT whose readout ended (R159, R160, R162). -/
def Readout.reply (e : Readout) (o : ReadoutEnd) (delivered : Nat) : Reply :=
  { tag := e.tag, code := codeReadReport, status := .ok, results := le1 o.code ++ countBytes e.granted delivered }

/-- The records of the engine's next frame (R159). -/
def Readout.batch (e : Readout) (rep : Report) : List ReportRecord :=
  ((rep.records e.part).drop (e.next - 1)).take (min recordsPerFrame (e.granted - e.delivered))

/-- The engine after a frame of `n` records. -/
def Readout.after (e : Readout) (n : Nat) : Readout := { e with next := e.next + n, delivered := e.delivered + n }

/-- The engine places its next frame; the frame that leaves nothing remaining ends the readout (R159). -/
def State.placeReport (s : State) (e : Readout) (rep : Report) : State :=
  let n := min recordsPerFrame (e.granted - e.delivered)
  let s : State := { s with
    port.reportQ := s.port.reportQ ++ [.reportData e.slot e.part rep.header.record.seq e.next (e.batch rep)] }
  if e.granted ≤ e.delivered + n then
    ({ s with report.engine := none } : State).offerReply (e.reply .complete (e.delivered + n))
  else { s with report.engine := some (e.after n) }

/-- REPORT_DATA (R159). -/
def execReportData (dt : Time) (s : State) : Host.Outcome State Fault Refusal :=
  let s := s.advance dt
  match s.report.engine with
  | some e =>
    match (s.report.slots[e.slot]).report with
    | some rep => if s.port.reportQ.length < reportCapacity then .next (s.placeReport e rep) else .next s
    | none => .next s
  | none => .next s

def sectionOf : Nat → Option Section
  | 0 => some .header | 1 => some .axles | 2 => some .vehicles | _ => none

/-- The answer of READ REPORT's checks (Table 9.3): the field of a RANGE reply is its place among the arguments
(assumption 11). -/
inductive ReadVerdict where
  | range (field : Nat)
  | refuse (st : Status)
  | accept (e : Readout)
deriving DecidableEq, Repr

/-- The checks of READ REPORT in the order of Table 9.3. -/
def State.checkRead (s : State) (tag : Byte) (a : List Byte) : ReadVerdict :=
  if h : u8 a 0 < 4 then
    match sectionOf (u8 a 1) with
    | none => .range 1
    | some part =>
      let slot := s.report.slots[u8 a 0]
      if u16 a 4 = 0 ∨ 1024 < u16 a 4 then .range 3
      else if s.report.engine.isSome then .refuse .busy
      else if slot.writing then .refuse .busy
      else
        match slot.state, slot.report with
        | .empty, _ | _, none => .refuse .empty
        | _, some rep =>
          let n := (rep.records part).length
          if u16 a 2 = 0 ∨ n < u16 a 2 then .range 2
          else
            .accept { slot := ⟨u8 a 0, h⟩, part, tag, next := u16 a 2, granted := min (u16 a 4) (n - u16 a 2 + 1),
                      foreign := s.port.reportQ.length }
  else .range 0

/-- The report unit's answer to READ REPORT: an accepted one is answered when its readout ends (R158). -/
def State.serveReadReport (c : Command) (s : State) : State :=
  match s.checkRead c.tag c.args with
  | .range i => s.answerRange c i
  | .refuse st => s.answer c st []
  | .accept e => { s with report.engine := some e }

/-- READ_REPORT (R158). -/
def execReadReport (dt : Time) (s : State) : Host.Outcome State Fault Refusal :=
  .next ((s.advance dt).serve codeReadReport (exactly 6) State.serveReadReport)

/-- The answer to ABORT READOUT (R160): the mark "no readout" alone when the engine is IDLE; otherwise READ REPORT's
REPLY first, in the reserved place (R166), and its own after it. -/
def State.serveAbort (c : Command) (s : State) : State :=
  match s.report.engine with
  | none => s.answer c .ok (yes true)
  | some e =>
    (({ s with report.engine := none } : State).placeReply (e.reply .aborted e.delivered)).offerReply
      (c.reply .ok (yes false ++ countBytes e.granted e.delivered))

/-- ABORT_READOUT (R160). -/
def execAbortReadout (dt : Time) (s : State) : Host.Outcome State Fault Refusal :=
  .next ((s.advance dt).serve codeAbortReadout (exactly 0) State.serveAbort)

/-! ## Release and directory (R157, R161) -/

/-- A HELD slot becomes RELEASED (R161). -/
def State.release (s : State) (i : Fin 4) : State :=
  { s with
    report.slots := s.report.slots.set i { s.report.slots[i] with state := .released }
    report.releases := bump s.report.releases }

/-- The answer to RELEASE REPORT, by the first line of R161 that applies. -/
def State.serveRelease (c : Command) (s : State) : State :=
  if h : u8 c.args 0 < 4 then
    let i : Fin 4 := ⟨u8 c.args 0, h⟩
    if (s.report.slots[i]).writing then s.answer c .busy []
    else if s.report.inReadout i then s.answer c .inReadout []
    else
      match (s.report.slots[i]).state with
      | .empty => s.answer c .empty []
      | .held => (s.release i).answer c .ok []
      | .released => s.answer c .ok []
  else s.answerRangeFree c

/-- RELEASE_REPORT (R161). -/
def execReleaseReport (dt : Time) (s : State) : Host.Outcome State Fault Refusal :=
  .next ((s.advance dt).serve codeReleaseReport (exactly 1) State.serveRelease)

/-- A slot's part of the directory (R157). R177 names no width for an age rank, nor whether the four items of the report
share a presence byte: two bytes for the rank and a presence byte before each of the four are the model's choice (assumption
13). -/
def ReportUnit.slotBytes (r : ReportUnit) (i : Fin 4) : List Byte :=
  let slot := r.slots[i]
  let shown := if slot.state = .empty ∨ slot.writing = true then none else slot.report
  le1 slot.state.code ++ yes slot.writing ++
  optional (fun p : Report => leHalf p.header.record.seq) shown ++
  optional (fun cl : Closure => le1 cl.code) (shown.bind fun p => p.header.record.closure) ++
  optional (fun p : Report => le2 p.header.axleCount) shown ++
  optional (fun p : Report => le2 p.header.vehicleCount) shown ++
  optional le2 (r.rank i) ++ yes (r.inReadout i)

/-- The reply to REPORT DIRECTORY (R157). -/
def ReportUnit.directory (r : ReportUnit) : List Byte :=
  allSlots.flatMap r.slotBytes ++ le2 r.closed ++ le2 r.releases ++ le2 r.lost

/-- REPORT_DIRECTORY (R157). -/
def execReportDirectory (dt : Time) (s : State) : Host.Outcome State Fault Refusal :=
  .next ((s.advance dt).serve codeReportDirectory (exactly 0) fun c s => s.answer c .ok s.report.directory)

end Sys2Proof.Machine
end

