-- ==== Sys2Proof/Machine/Station.lean ====
section
/-!
DEFINITION. The station port's other commands (chapters 2, 3, 4 and 10), power-on, site reset (R42, R176) and the
outbound line (R166, R167).
-/

namespace Sys2Proof.Machine

/-! ## Tables (R171 to R173) -/

/-- The banks, as the commands name them. -/
def bankActive : Nat := 0
def bankPending : Nat := 1

/-- The answer to LOAD TABLE (R171, R172): the reply names the bank written. -/
def State.serveLoadTable (c : Command) (s : State) : State :=
  match s.checkLoad c.args with
  | .badLength => s.answer c .badLength []
  | .range i => s.answerRange c i
  | .ok l =>
    if s.sessionOpen then (s.writePending l).answer c .ok (le1 bankPending)
    else (s.writeActive l).answer c .ok (le1 bankActive)

/-- LOAD_TABLE (R171, R172). -/
def execLoadTable (dt : Time) (s : State) : Host.Outcome State Fault Refusal :=
  .next ((s.advance dt).serve codeLoadTable anyLength State.serveLoadTable)

/-- The ranges of READ TABLE's arguments (R173); a bank byte that is no bank is out of range (assumption 16). -/
def readTableOk (id first n bank : Nat) : Bool :=
  decide (id ≤ 4 ∧ n ≠ 0 ∧ (id = 3 → n ≤ 32) ∧ first + n ≤ tableEntries id ∧ bank ≤ 1)

/-- The answer to READ TABLE (R173). -/
def State.serveReadTable (c : Command) (s : State) : State :=
  let id := u8 c.args 0
  let first := u8 c.args 1
  let n := u8 c.args 2
  let bank := u8 c.args 3
  if readTableOk id first n bank then
    let r := s.readEntries id first n (decide (bank = bankPending))
    r.2.answer c .ok r.1
  else s.answerRangeFree c

/-- READ_TABLE (R173). -/
def execReadTable (dt : Time) (s : State) : Host.Outcome State Fault Refusal :=
  .next ((s.advance dt).serve codeReadTable (exactly 4) State.serveReadTable)

/-! ## Queries (R174, R175, R60) -/

/-- The vendor text "KAVELUND". -/
def vendorText : List Byte := [0x4B, 0x41, 0x56, 0x45, 0x4C, 0x55, 0x4E, 0x44]

/-- The reply to DESCRIBE (R174); its numbers take two bytes and its zeros four (assumption 13). -/
def describeBytes (leaf subleaf : Nat) : List Byte :=
  match leaf with
  | 0 => le2 3 ++ vendorText
  | 1 => le2 15 ++ le2 2 ++ le2 24 ++ le2 3
  | 2 => le2 1024 ++ le2 1024 ++ le2 4 ++ le2 24 ++ le2 64 ++ le2 16 ++ le2 6 ++ le2 4 ++ le2 21
  | 3 => le2 (tableEntries subleaf) ++ le2 (entrySize subleaf)
  | _ => le2 0 ++ le2 0

/-- DESCRIBE (R174). -/
def execDescribe (dt : Time) (s : State) : Host.Outcome State Fault Refusal :=
  .next ((s.advance dt).serve codeDescribe (exactly 2) fun c s =>
    s.answer c .ok (describeBytes (u8 c.args 0) (u8 c.args 1)))

def Unusable.code : Unusable → Nat
  | .notValid => 0 | .nodeAbsent => 1 | .nodeSilent => 2 | .kindMismatch => 3 | .channelFault => 4

/-- The session record as READ STATUS sends it (R32); that COUNT_MISMATCH and OUTLIER_NOT_TESTED, which R33 and Table 9.2
give the record, are sent after the fields of R32 is the model's reading (assumption 24). -/
def SessionRecord.bytes (r : SessionRecord) : List Byte :=
  leHalf r.seq ++ optional leTime r.openTime ++ optional (fun d => le1 (Direction.code d)) r.direction ++
  optional leTime r.firstCrossing ++ optional leTime r.lastCrossing ++
  optional (fun c => le1 (Closure.code c)) r.closure ++ optional leTime r.closeStart ++ yes r.noApproach ++
  yes r.incompleteStart ++ yes r.notSettledStart ++ yes r.countMismatch ++ yes r.outlierNotTested.r1 ++
  yes r.outlierNotTested.r2

/-- An entry of a fault list as READ STATUS sends it: the local channel as an index that may be none, 0 alone for NODE,
and the kind (R175, R177; assumption 13). -/
def FaultEntry.bytes (f : FaultEntry) : List Byte := optional le2 f.channel ++ le1 f.kind.code

/-- A Node Table entry as READ STATUS sends it, in the order of Table 4.4. R177's general rule codes its named values
from 0 as the tables of chapter 4 list them, and not by the codes of Table 11.5; that a two-byte count comes before the fault
list, whose length no rule gives, is the model's choice (assumption 13). -/
def NodeEntry.bytes (e : NodeEntry) : List Byte :=
  le1 e.status.code ++ optional (fun t => le1 (NodeType.code t)) e.type ++ le2 e.channelCount ++
  optional (fun l => l.flatMap fun r => le1 (Role.code r)) (if e.type = some .thermal then some e.roles else none) ++
  optional leTime e.lastFrame ++ le2 e.faults.length ++ e.faults.flatMap FaultEntry.bytes ++ yes e.identPending

def ZeroTrack.bytes (z : ZeroTrack) : List Byte := leInt z.offset ++ yes z.drift

def HeadState.counterBytes (h : HeadState) : List Byte := le2 h.chatter ++ le2 h.faults

/-- The session group of READ STATUS (R175, first to fourth items). That an approach's qualified level (R22) is sent as 1
asserted and 0 deasserted is the model's choice: R177 would also allow named values from 0 in the order listed (assumption
13). -/
def State.sessionBytes (s : State) : List Byte :=
  le1 s.session.state.code ++ le1 s.session.power.code ++ leHalf s.session.seq ++ s.session.record.bytes ++
  le1 s.session.wakeCause.code ++ leTime s.session.wakeTime ++ le1 s.session.settleState.code ++
  optional (fun h => le1 (headCode h)) s.session.entryHead ++
  optional (fun d => le1 (Direction.code d)) s.session.record.direction ++ le2 s.entryCount ++ le2 s.exitCount ++
  le2 s.axles.highWater ++ le2 s.axles.records.length ++ yes s.axles.truncated ++ le2 s.axles.mismatch ++
  le2 s.group.vehicles.length ++ le2 s.group.cursor ++ yes s.session.apr1.qualified ++ yes s.session.apr2.qualified

/-- The node and channel group of READ STATUS (R175, fifth and sixth items). -/
def State.channelBytes (s : State) : List Byte :=
  (s.node.nodes.toList.flatMap NodeEntry.bytes) ++
  (allChannels.flatMap fun i => yes (s.usable i) ++ optional (fun u => le1 (Unusable.code u)) (s.unusable i)) ++
  (s.load.zero.toList.flatMap (optional ZeroTrack.bytes)) ++ s.thermal.ambient.quantity.bytes ++
  le2 s.thermal.ambient.count ++ optional leTime s.thermal.ambient.latched

/-- The fill levels and counters of READ STATUS (R175, seventh and eighth items). -/
def State.counterBytes (s : State) : List Byte :=
  le2 s.port.alertQ.length ++ le2 s.port.replyQ.length ++ le2 s.port.reportQ.length ++ le2 s.port.resultQ.length ++
  le2 s.port.forwardQ.length ++ le2 s.port.commands.length ++ le2 s.session.falseApproaches ++
  s.heads.a.counterBytes ++ s.heads.b.counterBytes ++ le2 s.node.spurious ++ le2 s.node.discards ++
  le2 s.port.crcDiscards ++ le2 s.port.commandsDropped ++ le2 s.port.resultsSkipped ++ le2 s.port.forwardsDropped ++
  le2 s.alert.framesNotQueued ++ le2 s.report.lost

/-- The results of READ STATUS, in the order of R175 (assumption 13). -/
def State.statusBytes (s : State) : List Byte := s.sessionBytes ++ s.channelBytes ++ s.counterBytes

/-- READ_STATUS (R175). -/
def execReadStatus (dt : Time) (s : State) : Host.Outcome State Fault Refusal :=
  .next ((s.advance dt).serve codeReadStatus (exactly 0) fun c s => s.answer c .ok s.statusBytes)

/-- The answer to READ AXLE (R60). -/
def State.serveReadAxle (c : Command) (s : State) : State :=
  let k := u16 c.args 0
  if k = 0 ∨ axleCapacity < k then s.answerRangeFree c
  else
    match s.record? k with
    | some r => s.answer c .ok (leHalf s.axles.tableSeq ++ r.bytes)
    | none => s.answer c .empty (leHalf s.axles.tableSeq)

/-- READ_AXLE (R60). -/
def execReadAxle (dt : Time) (s : State) : Host.Outcome State Fault Refusal :=
  .next ((s.advance dt).serve codeReadAxle (exactly 2) State.serveReadAxle)

/-! ## Power and session commands (R31, R38, R39) -/

/-- The answer to STANDBY (R38). -/
def State.serveStandby (c : Command) (s : State) : State :=
  match s.session.state with
  | .notReady => s.answer c .notReady []
  | .idle => s.enterStandby.answer c .ok []
  | .standby => s.answer c .ok []
  | .armed | .inTrain | .stopped | .clearing | .closing => s.answer c .trainActive []

/-- STANDBY (R38). -/
def execStandby (dt : Time) (s : State) : Host.Outcome State Fault Refusal :=
  .next ((s.advance dt).serve codeStandby (exactly 0) State.serveStandby)

/-- The answer to WAKE (R39). -/
def State.serveWake (c : Command) (s : State) : State :=
  if s.session.state = .standby then (s.wake .stationWake s.clock).enterIdle.answer c .ok [] else s.answer c .ok []

/-- WAKE (R39). -/
def execWake (dt : Time) (s : State) : Host.Outcome State Fault Refusal :=
  .next ((s.advance dt).serve codeWake (exactly 0) State.serveWake)

/-- The answer to CLOSE TRAIN (R31). -/
def State.serveCloseTrain (c : Command) (s : State) : State :=
  if s.session.state = .inTrain ∨ s.session.state = .stopped then
    (s.startClose .forced).answer c .ok (leHalf s.session.seq)
  else s.answer c .noTrain []

/-- CLOSE_TRAIN (R31). -/
def execCloseTrain (dt : Time) (s : State) : Host.Outcome State Fault Refusal :=
  .next ((s.advance dt).serve codeCloseTrain (exactly 0) State.serveCloseTrain)

/-! ## NODE TRANSACTION (R72) -/

def txModeOf : Nat → Option TxMode
  | 0 => some .single | 1 => some .blockStop | 2 => some .blockIgnore | 3 => some .blockRepeat | 4 => some .scan
  | _ => none

/-- An item of five bytes: node, register, access, value. -/
def parseItem (b : List Byte) : Option TxItem :=
  if h : 1 ≤ u8 b 0 ∧ u8 b 0 ≤ 6 then
    match boolOf (u8 b 2) with
    | some w => some { node := ⟨u8 b 0 - 1, by omega⟩, register := byteAt b 1, write := w, value := half b 3 }
    | none => none
  else none

/-- The answer of the checks of R72. -/
inductive TxCheck where
  | badLength
  | range (index : Nat)
  | refuse (st : Status)
  | accept (t : Transaction)
deriving DecidableEq, Repr

/-- The checks of NODE TRANSACTION in the order of R72. That the first item has index 0 in the RANGE reply is the model's
choice (assumption 28). -/
def State.checkTransaction (s : State) (tag : Byte) (a : List Byte) : TxCheck :=
  let mode := u8 a 0
  let n := u8 a 2
  if a.length < 3 ∨ a.length ≠ 3 + 5 * n ∨ n = 0 ∨ 64 < n ∨ ((mode = 0 ∨ mode = 4) ∧ n ≠ 1) then .badLength
  else
    match txModeOf mode with
    | none => .range 0
    | some m =>
      match parseAll parseItem 0 (chunks 5 n (a.drop 3)) with
      | .error i => .range i
      | .ok items =>
        if s.sessionOpen then .refuse .trainActive
        else if s.node.slot.isSome then .refuse .busy
        else .accept { tag, mode := m, disable := decide (u8 a 1 ≠ 0), items }

/-- The answer to NODE TRANSACTION: an accepted one waits in the slot and is answered at its end (R72). -/
def State.serveNodeTransaction (c : Command) (s : State) : State :=
  match s.checkTransaction c.tag c.args with
  | .badLength => s.answer c .badLength []
  | .range i => s.answerRange c i
  | .refuse st => s.answer c st []
  | .accept t => { s with node.slot := some t }

/-- NODE_TRANSACTION (R72). -/
def execNodeTransaction (dt : Time) (s : State) : Host.Outcome State Fault Refusal :=
  .next ((s.advance dt).serve codeNodeTransaction anyLength State.serveNodeTransaction)

/-! ## Site reset (R42, R162, R176) -/

/-- An approach qualifier set to its pin (R22). -/
def ApproachInput.reset (a : ApproachInput) : ApproachInput := { pin := a.pin, qualified := a.pin }

/-- The session controller after a site reset (R42), before IDLE is entered; `ready` says Site Constants is valid. That the
cleared session record holds the kept train sequence number is the model's reading (assumption 24). -/
def SessionCtl.siteReset (c : SessionCtl) (ready : Bool) : SessionCtl :=
  { state := if !ready then .notReady else if c.state = .standby then .standby else .idle
    power := c.power
    seq := c.seq
    record := { seq := c.seq }
    apr1 := c.apr1.reset
    apr2 := c.apr2.reset
    settle := c.settle
    settleState := c.settleState
    thermalSeen := c.thermalSeen
    wakeCause := c.wakeCause
    wakeTime := c.wakeTime }

/-- Every block as a site reset leaves it, before the replies of what it ended (R176 and the value table of each
chapter). That the RESULT class is emptied with the others, a VEHICLE RESULT offered before the reset with it, is the
model's choice between R135's words and Table 10.6 (assumption 25). -/
def State.resetBlocks (s : State) : State :=
  { clock := s.clock
    heads := ⟨s.heads.a.reset, s.heads.b.reset⟩
    session := s.session.siteReset s.site.isSome
    axles := { tableSeq := s.axles.tableSeq }
    node := { ready := s.node.ready.filter fun f => !f.isRequest, line := s.node.line, nextMark := s.node.nextMark }
    load := { zero := Vec.map freshZero s.tables.active.channels }
    alert := { entries := Vec.map AlertEntry.cleared s.alert.entries }
    port := { commands := s.port.commands, line := s.port.line }
    tables := { active := s.tables.active }
    freeCount := s.freeCount
    pending := s.pending }

/-- The state entered by a site reset: IDLE starts its timer (R42). -/
def State.resetState (s : State) : State :=
  if s.resetBlocks.session.state = .idle then s.resetBlocks.enterIdle else s.resetBlocks

/-- The REPLY of a transaction that a site reset ended, offered by the state after it (R77). -/
def State.replyAborted (s : State) (slot : Option Transaction) (work : Option Work) : State :=
  match slot with
  | some t =>
    s.offerReply { tag := t.tag, code := codeNodeTransaction, status := .ok, results := (t.abort work).results .aborted }
  | none => s

/-- The REPLY of a readout that a site reset ended: delivered counts what had left the REPORT class (R162). -/
def State.replyReset (s : State) (engine : Option Readout) : State :=
  match engine with
  | some e => s.offerReply (e.reply .reset e.left)
  | none => s

/-- The answer to SITE RESET: the reset, then the replies of the ended transaction and readout, then its own OK
(R176). -/
def State.serveSiteReset (c : Command) (s : State) : State :=
  ((s.resetState.replyAborted s.node.slot s.node.work).replyReset s.report.engine).offerReply (c.reply .ok [])

/-- SITE_RESET (R42, R176). -/
def execSiteReset (dt : Time) (s : State) : Host.Outcome State Fault Refusal :=
  .next ((s.advance dt).serve codeSiteReset (exactly 0) State.serveSiteReset)

/-! ## Power-on (R20) -/

/-- The state at power-on: every block at its power-on values, the pins as they stand, the queue of waiting commands
kept. -/
def State.powerOn (s : State) : State :=
  { heads := ⟨s.heads.a.powerOn, s.heads.b.powerOn⟩
    session := { apr1 := s.session.apr1.reset, apr2 := s.session.apr2.reset }
    freeCount := s.freeCount
    pending := s.pending }

/-- POWER_ON (R20). -/
def execPowerOn (s : State) : Host.Outcome State Fault Refusal := .next s.powerOn

/-! ## The outbound line (R166, R167) -/

/-- HELD_REPLY (R166): room in the REPLY class lets the reply held longest be placed. -/
def execHeldReply (dt : Time) (s : State) : Host.Outcome State Fault Refusal :=
  let s := s.advance dt
  match s.port.heldReplies with
  | [] => .next s
  | f :: rest =>
    if s.port.replyQ.length < replyCapacity then
      .next { s with port.replyQ := s.port.replyQ ++ [f], port.heldReplies := rest }
    else .next s

/-- The records a REPORT DATA frame carries. -/
def OutFrame.recordCount : OutFrame → Nat
  | .reportData _ _ _ _ rs => rs.length
  | _ => 0

/-- A frame has left the REPORT class: it is one of an earlier readout, or its records have left for good (R162). -/
def Readout.frameLeft (e : Readout) (f : OutFrame) : Readout :=
  if 0 < e.foreign then { e with foreign := e.foreign - 1 } else { e with left := e.left + f.recordCount }

/-- The line is free: it takes the oldest frame of the highest-ranked non-empty class (R167). -/
def State.arbitrate (s : State) : State :=
  match s.port.alertQ with
  | f :: l => { s with port.alertQ := l, port.line := some f }
  | [] =>
  match s.port.replyQ with
  | f :: l => { s with port.replyQ := l, port.line := some f }
  | [] =>
  match s.port.reportQ with
  | f :: l =>
    { s with
      port.reportQ := l
      port.line := some f
      report.engine := s.report.engine.map (·.frameLeft f) }
  | [] =>
  match s.port.resultQ with
  | f :: l => { s with port.resultQ := l, port.line := some f }
  | [] =>
  match s.port.forwardQ with
  | f :: l => { s with port.forwardQ := l, port.line := some f }
  | [] => { s with port.line := none }

/-- TRANSMIT_ARBITER (R167): the frame that was on the line has been sent whole. That this row is the end of that frame is
the model's choice (assumption 14). -/
def execTransmitArbiter (dt : Time) (s : State) : Host.Outcome State Fault Refusal := .next (s.advance dt).arbitrate

end Sys2Proof.Machine
end

