-- ==== Sys2Proof/Machine/Dispatch.lean ====
section
/-!
DEFINITION. The dispatch of a command to its meaning: one arm per row of spec/opcode_table.json.
-/

namespace Sys2Proof.Machine

open Sys2Proof

def exec (i : Instr) (s : State) : Host.Outcome State Fault Refusal :=
  match i with
  | .powerOn => Sys2Proof.Machine.execPowerOn s
  | .coilPinTransition dt h c occupied => Sys2Proof.Machine.execCoilPinTransition dt h c occupied s
  | .candidateCommit dt h c => Sys2Proof.Machine.execCandidateCommit dt h c s
  | .coilEdge dt h c => Sys2Proof.Machine.execCoilEdge dt h c s
  | .decoderStep dt h => Sys2Proof.Machine.execDecoderStep dt h s
  | .crossing dt h => Sys2Proof.Machine.execCrossing dt h s
  | .approachPinChange dt a asserted => Sys2Proof.Machine.execApproachPinChange dt a asserted s
  | .approachEdge dt a => Sys2Proof.Machine.execApproachEdge dt a s
  | .armExpiry dt => Sys2Proof.Machine.execArmExpiry dt s
  | .standstillExpiry dt => Sys2Proof.Machine.execStandstillExpiry dt s
  | .clearExpiry dt => Sys2Proof.Machine.execClearExpiry dt s
  | .abandonExpiry dt => Sys2Proof.Machine.execAbandonExpiry dt s
  | .idleExpiry dt => Sys2Proof.Machine.execIdleExpiry dt s
  | .settleExpiry dt => Sys2Proof.Machine.execSettleExpiry dt s
  | .axleOverdue dt ordinal => Sys2Proof.Machine.execAxleOverdue dt ordinal s
  | .closeMeasurementsDone dt => Sys2Proof.Machine.execCloseMeasurementsDone dt s
  | .reportCopyComplete dt => Sys2Proof.Machine.execReportCopyComplete dt s
  | .bayRead dt ordinal rail bay => Sys2Proof.Machine.execBayRead dt ordinal rail bay s
  | .loadReadLimit dt ordinal => Sys2Proof.Machine.execLoadReadLimit dt ordinal s
  | .loadPartComplete dt ordinal => Sys2Proof.Machine.execLoadPartComplete dt ordinal s
  | .scannerRead dt ordinal rail => Sys2Proof.Machine.execScannerRead dt ordinal rail s
  | .bearingReadLimit dt ordinal => Sys2Proof.Machine.execBearingReadLimit dt ordinal s
  | .bearingPartComplete dt ordinal => Sys2Proof.Machine.execBearingPartComplete dt ordinal s
  | .segmentationRun dt => Sys2Proof.Machine.execSegmentationRun dt s
  | .cameraPulseStart dt => Sys2Proof.Machine.execCameraPulseStart dt s
  | .cameraPulseEnd dt => Sys2Proof.Machine.execCameraPulseEnd dt s
  | .exitPulseEnd dt => Sys2Proof.Machine.execExitPulseEnd dt s
  | .timeMark dt => Sys2Proof.Machine.execTimeMark dt s
  | .downstreamSend dt => Sys2Proof.Machine.execDownstreamSend dt s
  | .samples dt frame => Sys2Proof.Machine.execSamples dt frame s
  | .autozeroBlockEnd dt index => Sys2Proof.Machine.execAutozeroBlockEnd dt index s
  | .identAnswer dt frame => Sys2Proof.Machine.execIdentAnswer dt frame s
  | .pollAnswer dt frame => Sys2Proof.Machine.execPollAnswer dt frame s
  | .statusAnswer dt frame => Sys2Proof.Machine.execStatusAnswer dt frame s
  | .itemAnswer dt frame => Sys2Proof.Machine.execItemAnswer dt frame s
  | .upstreamDiscard dt frame => Sys2Proof.Machine.execUpstreamDiscard dt frame s
  | .nodeSilence dt node => Sys2Proof.Machine.execNodeSilence dt node s
  | .ident dt => Sys2Proof.Machine.execIdent dt s
  | .identTimeout dt => Sys2Proof.Machine.execIdentTimeout dt s
  | .poll dt => Sys2Proof.Machine.execPoll dt s
  | .pollEnd dt => Sys2Proof.Machine.execPollEnd dt s
  | .statusRequest dt => Sys2Proof.Machine.execStatusRequest dt s
  | .statusReadTimeout dt => Sys2Proof.Machine.execStatusReadTimeout dt s
  | .transactionBegin dt => Sys2Proof.Machine.execTransactionBegin dt s
  | .itemTimeout dt => Sys2Proof.Machine.execItemTimeout dt s
  | .ringExpiry dt index => Sys2Proof.Machine.execRingExpiry dt index s
  | .stationFrameReceive dt frame => Sys2Proof.Machine.execStationFrameReceive dt frame s
  | .unknownCommand dt => Sys2Proof.Machine.execUnknownCommand dt s
  | .loadTable dt => Sys2Proof.Machine.execLoadTable dt s
  | .readTable dt => Sys2Proof.Machine.execReadTable dt s
  | .describe dt => Sys2Proof.Machine.execDescribe dt s
  | .readStatus dt => Sys2Proof.Machine.execReadStatus dt s
  | .siteReset dt => Sys2Proof.Machine.execSiteReset dt s
  | .standby dt => Sys2Proof.Machine.execStandby dt s
  | .wake dt => Sys2Proof.Machine.execWake dt s
  | .closeTrain dt => Sys2Proof.Machine.execCloseTrain dt s
  | .readAxle dt => Sys2Proof.Machine.execReadAxle dt s
  | .nodeTransaction dt => Sys2Proof.Machine.execNodeTransaction dt s
  | .topAlert dt => Sys2Proof.Machine.execTopAlert dt s
  | .clearAlert dt => Sys2Proof.Machine.execClearAlert dt s
  | .setAlertEnable dt => Sys2Proof.Machine.execSetAlertEnable dt s
  | .reportDirectory dt => Sys2Proof.Machine.execReportDirectory dt s
  | .readReport dt => Sys2Proof.Machine.execReadReport dt s
  | .abortReadout dt => Sys2Proof.Machine.execAbortReadout dt s
  | .releaseReport dt => Sys2Proof.Machine.execReleaseReport dt s
  | .reportData dt => Sys2Proof.Machine.execReportData dt s
  | .heldReply dt => Sys2Proof.Machine.execHeldReply dt s
  | .transmitArbiter dt => Sys2Proof.Machine.execTransmitArbiter dt s

end Sys2Proof.Machine
end

