-- ==== Sys2Proof/Safety.lean ====
section
/-!
DEFINITION. What a sound state of the W2410 is, in the terms the statements use: the laws of the session controller
(R20, R21, R24, Table 2.3), the capacities of the collections, the law of the Axle Table (R43) and the balance of the
Report Store (R156).
-/

namespace Sys2Proof.Machine

/-- The power state is STANDBY exactly while the session state is STANDBY (R20); NOT_READY means that Site Constants
has never been activated (Table 2.1); each session timer runs exactly in its state (Table 2.3), the settle timer
exactly while SETTLING (R41); and the session record carries the train sequence number (R20, R32). -/
structure State.SessionSound (s : State) : Prop where
  power : s.session.power = .standby ↔ s.session.state = .standby
  ready : s.session.state = .notReady ↔ s.site = none
  arm : s.session.arm.isSome = true ↔ s.session.state = .armed
  standstill : s.session.standstill.isSome = true ↔ s.session.state = .inTrain
  clear : s.session.clear.isSome = true ↔ s.session.state = .clearing
  abandon : s.session.abandon.isSome = true ↔ s.session.state = .stopped
  idle : s.session.idle.isSome = true ↔ s.session.state = .idle
  settle : s.session.settle.isSome = true ↔ s.session.settleState = .settling
  record : s.session.record.seq = s.session.seq

/-- The capture queue of a coil line holds at most 4 edges (R6). -/
def HeadState.QueuesBounded (h : HeadState) : Prop := h.c1.queue.length ≤ 4 ∧ h.c2.queue.length ≤ 4

/-- No collection holds more than its capacity: capture queues (R6), held crossings (R36), rings (R79), camera queue
(R149), command queue (R164) and transmit classes (Table 10.3). -/
structure State.Bounded (s : State) : Prop where
  headA : s.heads.a.QueuesBounded
  headB : s.heads.b.QueuesBounded
  held : s.session.held.length ≤ 8
  rings : ∀ i : ChanIdx, (s.rings[i]).length ≤ 8192
  camera : s.gate.queue.length ≤ 4
  commands : s.port.commands.length ≤ 4
  alertQ : s.port.alertQ.length ≤ 16
  replyQ : s.port.replyQ.length ≤ 4
  reportQ : s.port.reportQ.length ≤ 8
  resultQ : s.port.resultQ.length ≤ 64
  forwardQ : s.port.forwardQ.length ≤ 32

/-- The Axle Table holds ordinals 1, 2, ... in order, as many as min(1024, high-water count); and the entry count has
not passed the high-water count (R43). Before a session's first crossing every count is 0. -/
structure State.AxleTableSound (s : State) : Prop where
  ordinals : s.axles.records.map (·.ordinal) = List.range' 1 s.axles.records.length
  size : s.axles.records.length = min 1024 s.axles.highWater
  entry : s.entryCount ≤ s.axles.highWater
  fresh : s.session.entryHead = none → s.heads.a.count = 0 ∧ s.heads.b.count = 0 ∧ s.axles.highWater = 0

/-- How many slots are HELD. -/
def ReportUnit.heldCount (r : ReportUnit) : Nat := (allSlots.filter fun i => decide ((r.slots[i]).state = .held)).length

/-- While the closed trains count is below its bound it is the HELD reports plus the releases plus the reports lost
(R156), and a HELD slot holds a report (R152). -/
structure State.ReportsBalanced (s : State) : Prop where
  balance : s.report.closed < 65535 → s.report.closed = s.report.heldCount + s.report.releases + s.report.lost
  holds : ∀ i : Fin 4, (s.report.slots[i]).state = .held → (s.report.slots[i]).report.isSome = true

/-- Exactly the indices with a valid LOAD entry have a tracking state; its offset lies within 512 counts of the loaded
offset, and its block holds at most 256 samples (R99, R100). -/
structure State.OffsetsSound (s : State) : Prop where
  holder : ∀ i : ChanIdx, (s.load.zero[i]).isSome = true ↔ ∃ e, s.channel? i = some e ∧ e.kind = .load
  span : ∀ (i : ChanIdx) (z : ZeroTrack) (e : Channel), s.load.zero[i] = some z → s.channel? i = some e →
    e.offset - 512 ≤ z.offset ∧ z.offset ≤ e.offset + 512
  block : ∀ (i : ChanIdx) (z : ZeroTrack), s.load.zero[i] = some z → z.count ≤ 256

/-- The state after the dispatcher has taken the first of the waiting commands and its reply has been placed. -/
def State.replied (s : State) (rest : List Command) (r : Reply) : State :=
  { s with port.commands := rest, port.replyQ := s.port.replyQ ++ [.reply r] }

end Sys2Proof.Machine
end

