-- ==== Sys2Proof/WellFormed.lean ====
section
/-!
DEFINITION. When a command is well formed: an axle ordinal is one the Axle Table can hold (R43), and a frame is one
its row takes: an upstream row's bytes pass every check of R63 and are of the row's kind, a discarded frame's bytes
do not, and a frame of either line is no longer than its length field allows. What a command carries that is not well
formed does nothing but let its time pass.
-/

namespace Sys2Proof

open Sys2Proof.Machine

/-- An ordinal of the Axle Table: 1 to 1024 (R43). -/
def ordinalOk (k : Nat) : Bool := decide (1 ≤ k ∧ k ≤ 1024)

/-- A node frame of the given content test: its bytes pass every check of R63. -/
def frameOk (p : UpBody → Bool) (frame : List Byte) : Bool :=
  match parseUp frame with
  | some f => p f.body
  | none => false

def isSamples : UpBody → Bool
  | .samples _ _ => true
  | _ => false

def isIdentAnswer : UpBody → Bool
  | .identAnswer _ _ => true
  | _ => false

def isPollAnswer : UpBody → Bool
  | .pollAnswer => true
  | _ => false

def isStatusAnswer : UpBody → Bool
  | .statusAnswer _ => true
  | _ => false

def isItemAnswer : UpBody → Bool
  | .itemAnswer _ _ => true
  | _ => false

/-- The longest node frame: header, 255 payload bytes and check sequence (Table 11.4). -/
def longestNodeFrame : Nat := 261

/-- The longest inbound station frame whose length field can be met (Table 11.1). -/
def longestStationFrame : Nat := 65541

/-- Well-formedness of a command. -/
def Instr.wellFormed : Instr → Bool
  | .axleOverdue _ k => ordinalOk k
  | .bayRead _ k _ _ => ordinalOk k
  | .loadReadLimit _ k => ordinalOk k
  | .loadPartComplete _ k => ordinalOk k
  | .scannerRead _ k _ => ordinalOk k
  | .bearingReadLimit _ k => ordinalOk k
  | .bearingPartComplete _ k => ordinalOk k
  | .samples _ f => frameOk isSamples f
  | .identAnswer _ f => frameOk isIdentAnswer f
  | .pollAnswer _ f => frameOk isPollAnswer f
  | .statusAnswer _ f => frameOk isStatusAnswer f
  | .itemAnswer _ f => frameOk isItemAnswer f
  | .upstreamDiscard _ f => decide (f.length ≤ longestNodeFrame) && (parseUp f).isNone
  | .stationFrameReceive _ f => decide (f.length ≤ longestStationFrame)
  | .powerOn | .coilPinTransition .. | .candidateCommit .. | .coilEdge .. | .decoderStep .. | .crossing ..
  | .approachPinChange .. | .approachEdge .. | .armExpiry _ | .standstillExpiry _ | .clearExpiry _ | .abandonExpiry _
  | .idleExpiry _ | .settleExpiry _ | .closeMeasurementsDone _ | .reportCopyComplete _ | .segmentationRun _
  | .cameraPulseStart _ | .cameraPulseEnd _ | .exitPulseEnd _ | .timeMark _ | .downstreamSend _ | .autozeroBlockEnd ..
  | .nodeSilence .. | .ident _ | .identTimeout _ | .poll _ | .pollEnd _ | .statusRequest _ | .statusReadTimeout _
  | .transactionBegin _ | .itemTimeout _ | .ringExpiry .. | .unknownCommand _ | .loadTable _ | .readTable _ | .describe _
  | .readStatus _ | .siteReset _ | .standby _ | .wake _ | .closeTrain _ | .readAxle _ | .nodeTransaction _ | .topAlert _
  | .clearAlert _ | .setAlertEnable _ | .reportDirectory _ | .readReport _ | .abortReadout _ | .releaseReport _
  | .reportData _ | .heldReply _ | .transmitArbiter _ => true

end Sys2Proof
end

