-- ==== Sys2Proof/Certificates/Slice0/Obligations.lean ====
section
/-!
DEFINITION. The statements for the provers, in the order of the spec's chapters. In a statement about a command, `u`
is the state after the command's time has passed; where the next state is given as an equation on `u`, everything the
equation does not name is unchanged.
-/

open Sys2Proof Sys2Proof.Machine

/-! ## The block as a whole -/

/-- One step takes the command at the front of the queue and runs it on the state with the queue's rest. With no command
waiting one microsecond passes and nothing else changes but the decoder steps in progress (the model's choice, log
entry 1). -/
def Obligations.StepRunsTheFrontCommand : Prop :=
  (∀ (s : State) (c : Instr) (rest : List Instr), s.pending = c :: rest → step s = exec c { s with pending := rest }) ∧
  (∀ s : State, s.pending = [] → step s = .next { s with
     clock := s.clock + 1
     heads := ⟨{ s.heads.a with busy := s.heads.a.busy - 1 }, { s.heads.b with busy := s.heads.b.busy - 1 }⟩ })

/-- Every command answers a next state and leaves the queue as it is: no run stops. The clock moves by the time that
passed and by nothing else, so that no site reset, wake or other event loads or stops it; POWER_ON sets it to 0 (R1). -/
def Obligations.EveryCommandAnswersNext : Prop :=
  ∀ (c : Instr) (s : State), ∃ t, exec c s = .next t ∧ t.pending = s.pending ∧
    t.clock = if c = .powerOn then 0 else s.clock + c.dt

/-- The laws of the session controller hold in every state a step reaches from one in which they hold: among them the power
state and the timers by the session state, and the session record's number, which is the train sequence number (R20, R21,
R24, R32, R41, Table 2.3); that it is so after a site reset too is the model's reading (log entry 24). -/
def Obligations.SessionLawsKept : Prop :=
  ∀ s t : State, s.SessionSound → step s = .next t → t.SessionSound

/-- No step fills a collection beyond its capacity (R6, R36, R79, R149, R164, Table 10.3). -/
def Obligations.CapacitiesKept : Prop :=
  ∀ s t : State, s.Bounded → step s = .next t → t.Bounded

/-- The Axle Table keeps holding ordinals 1 upward without a gap, as many as the high-water count gives, and the entry
count never passes the high-water count (R43, R46, R47). -/
def Obligations.AxleTableLawKept : Prop :=
  ∀ s t : State, s.AxleTableSound → step s = .next t → t.AxleTableSound

/-- The balance of the Report Store: closed trains are the HELD reports, the releases and the reports lost (R156). -/
def Obligations.ReportBalanceKept : Prop :=
  ∀ s t : State, s.ReportsBalanced → step s = .next t → t.ReportsBalanced

/-- The tracked offset of every load channel stays within 512 counts of its loaded offset, and exactly the valid LOAD
entries have one (R99, R101). -/
def Obligations.TrackedOffsetsKept : Prop :=
  ∀ s t : State, s.OffsetsSound → step s = .next t → t.OffsetsSound

/-- All these laws hold right after reset. -/
def Obligations.LawsHoldAtReset : Prop :=
  State.reset.SessionSound ∧ State.reset.Bounded ∧ State.reset.AxleTableSound ∧ State.reset.ReportsBalanced ∧
  State.reset.OffsetsSound

/-- What power-on leaves, in any state of the pins: the clock at 0, NOT_READY, ACTIVE, no session, no node, no table
but the speed bands, every alert enabled and clear, every count at 0 and every queue empty; filtered levels, phase and
qualified levels at the pins (R19, R20, R22, R40, R61, R83, R104, R118, R120, R135, Tables 8.4, 8.6, 9.5 and 10.6).
That a queue of commands outlives it is the model's choice (log entry 1). -/
def Obligations.PowerOnLeaves : Prop :=
  ∀ s : State, ∃ t, exec .powerOn s = .next t ∧
    t = { State.reset with
          heads := t.heads, session := t.session, freeCount := s.freeCount, pending := s.pending } ∧
    t.session = { State.reset.session with
      apr1 := { pin := s.session.apr1.pin, qualified := s.session.apr1.pin }
      apr2 := { pin := s.session.apr2.pin, qualified := s.session.apr2.pin } } ∧
    ∀ h : Head, t.head h =
      { c1 := { pin := (s.head h).c1.pin, filtered := (s.head h).c1.pin }
        c2 := { pin := (s.head h).c2.pin, filtered := (s.head h).c2.pin }
        phase1 := (s.head h).c1.pin, phase2 := (s.head h).c2.pin
        resync := (s.head h).c1.pin || (s.head h).c2.pin }

/-! ## Chapter 1: heads and clock -/

/-- The comparison of times: a time is reached less than 2^31 after it, a time is older when the other lies 1 to
2^31 - 1 after it, and a timer expires when its start plus its length is reached (R2). -/
def Obligations.TimesCompareModulo : Prop :=
  (∀ now t : Time, reached now t = true ↔ (now.toNat + 2 ^ 32 - t.toNat) % 2 ^ 32 < 2 ^ 31) ∧
  (∀ t1 t2 : Time, older t1 t2 = true ↔
    1 ≤ (t2.toNat + 2 ^ 32 - t1.toNat) % 2 ^ 32 ∧ (t2.toNat + 2 ^ 32 - t1.toNat) % 2 ^ 32 ≤ 2 ^ 31 - 1) ∧
  (∀ (now : Time) (t : Timer), expired now (some t) = true ↔ reached now (t.start + t.length) = true)

/-- A pin that leaves the filtered level with no candidate standing forms one, with its time, its kind and the minimum
pulse width in force (R4). A pin that returns while a candidate stands: a pulse shorter than the candidate's minimum pulse
width is dropped whole and counted as chatter; one at least as long commits its first edge, and the return forms a new
candidate (R5, R6). -/
def Obligations.PinTransitionsFormCandidates : Prop :=
  (∀ (s : State) (dt : Time) (h : Head) (c : Coil) (lvl : Bool),
     ((s.head h).line c).pin ≠ lvl → ((s.head h).line c).candidate = none → ((s.head h).line c).filtered ≠ lvl →
     let u := s.advance dt
     exec (.coilPinTransition dt h c lvl) s = .next (u.setHead h ((u.head h).setLine c
       { (u.head h).line c with pin := lvl, candidate := some ⟨u.clock, lvl, u.minPulse⟩ }))) ∧
  (∀ (s : State) (dt : Time) (h : Head) (c : Coil) (lvl : Bool) (cand : Candidate),
     ((s.head h).line c).pin ≠ lvl → ((s.head h).line c).candidate = some cand →
     let u := s.advance dt
     let l := (u.head h).line c
     ((u.clock - cand.time).toNat < cand.minPulse →
       exec (.coilPinTransition dt h c lvl) s = .next (u.setHead h
         { (u.head h).setLine c { l with pin := lvl, candidate := none } with
           chatter := min ((u.head h).chatter + 1) 65535 })) ∧
     (cand.minPulse ≤ (u.clock - cand.time).toNat → l.queue.length < 4 →
       exec (.coilPinTransition dt h c lvl) s = .next (u.setHead h ((u.head h).setLine c
         { l with pin := lvl, filtered := cand.rise, queue := l.queue ++ [⟨cand.time, cand.rise⟩]
                  candidate := some ⟨u.clock, lvl, u.minPulse⟩, toSession := l.toSession ++ [cand.time] }))))

/-- A candidate whose minimum pulse width is reached with the pin at its level is committed: the edge joins the capture
queue, the filtered level follows, and the edge is handed to the session controller (R4, R6, R13). A commitment to a
full queue drops the oldest edge and sets OVERRUN; the first time, the decoder enters RESYNC and the head counts a fault,
which raises N5 with the head as source (R6, R7, R12). -/
def Obligations.CandidateIsCommitted : Prop :=
  (∀ (s : State) (dt : Time) (h : Head) (c : Coil) (cand : Candidate),
     ((s.head h).line c).candidate = some cand → ((s.head h).line c).pin = cand.rise →
     reached (s.clock + dt) (cand.time + micros cand.minPulse) = true → ((s.head h).line c).queue.length < 4 →
     let u := s.advance dt
     let l := (u.head h).line c
     exec (.candidateCommit dt h c) s = .next (u.setHead h ((u.head h).setLine c
       { l with queue := l.queue ++ [⟨cand.time, cand.rise⟩], filtered := cand.rise, candidate := none
                toSession := l.toSession ++ [cand.time] }))) ∧
  (∀ (s : State) (dt : Time) (h : Head) (c : Coil) (cand : Candidate) (e : Edge) (q : List Edge),
     ((s.head h).line c).candidate = some cand → ((s.head h).line c).pin = cand.rise →
     reached (s.clock + dt) (cand.time + micros cand.minPulse) = true →
     ((s.head h).line c).queue = e :: q → q.length = 3 →
     let u := s.advance dt
     let l := (u.head h).line c
     let hs := (u.head h).setLine c
       { l with queue := q ++ [⟨cand.time, cand.rise⟩], overrun := true, filtered := cand.rise, candidate := none
                toSession := l.toSession ++ [cand.time] }
     exec (.candidateCommit dt h c) s =
       if l.overrun then .next (u.setHead h hs)
       else .next ((u.setHead h { hs with resync := true, passage := none, faults := min (hs.faults + 1) 65535 }).raise
         .n5 (.head u.session.seq h)))

/-- Table 1.3: what each fitting step in TRACKING makes of both bits of the phase and of the crossing in progress, and which
crossing it emits (R9); the decoder stays in TRACKING and counts no head fault. On entry to 11 the latest 11 exit becomes
absent, as section 1.4 has it while the decoder is in 11. -/
def Obligations.TrackingFollowsTable13 : Prop :=
  ∀ (hs : HeadState) (e : Edge), hs.resync = false →
    (∀ c, hs.phaseOf c ≠ e.rise → (hs.step c e).head.resync = false ∧ (hs.step c e).fault = false) ∧
    (hs.phase1 = false ∧ hs.phase2 = false ∧ e.rise = true →
      (∀ c, (hs.step c e).emitted = none ∧ (hs.step c e).head.phase1 = decide (c = .c1) ∧
        (hs.step c e).head.phase2 = decide (c = .c2) ∧ (hs.step c e).head.passage =
        some { dir := if c = .c1 then .forward else .reverse, firstRise := e.time })) ∧
    (∀ c d, c ≠ d → hs.phaseOf c = false ∧ hs.phaseOf d = true ∧ e.rise = true →
      (hs.step c e).emitted = none ∧ (hs.step c e).head.phase1 = true ∧ (hs.step c e).head.phase2 = true ∧
      (hs.step c e).head.passage = hs.passage.map fun p =>
        { p with entry11 := some e.time, exit11 := none, secondRise := some (p.secondRise.getD e.time) }) ∧
    (∀ c, hs.phase1 = true ∧ hs.phase2 = true ∧ e.rise = false →
      (hs.step c e).emitted = none ∧ (hs.step c e).head.phase1 = decide (c ≠ .c1) ∧
      (hs.step c e).head.phase2 = decide (c ≠ .c2) ∧
      (hs.step c e).head.passage = hs.passage.map fun p => { p with exit11 := some e.time }) ∧
    (∀ c d, c ≠ d → hs.phaseOf c = true ∧ hs.phaseOf d = false ∧ e.rise = false →
      (hs.step c e).head.passage = none ∧ (hs.step c e).head.phase1 = false ∧ (hs.step c e).head.phase2 = false ∧
      (hs.passage = none → (hs.step c e).emitted = none) ∧
      ∀ p, hs.passage = some p →
        (hs.step c e).emitted = if p.dir = (if c = .c2 then .forward else .reverse) then some p else none)

/-- A decoder step on a clear head: the oldest edge leaves its queue, a crossing in the direction its coil gives begins,
and the step takes 20 microseconds (R8, R9). A SKIP in TRACKING with further edges waiting: the edge is taken, the phase
stays, the crossing in progress is discarded, the decoder enters RESYNC, and the head counts a fault, which raises N5
(R7, R11). A turn-back, the fall that clears the head by the near coil, ends the crossing in progress, counts nothing and
emits nothing (R9). In RESYNC a fitting step sets the phase alone, and the decoder leaves RESYNC when it becomes 00; a SKIP
counts no further fault; and with both queues empty, after a SKIP in TRACKING too, the phase is read from the filtered
levels and the decoder leaves RESYNC when that is 00 (R11, R12). That the effect stands at the step's start is the model's
choice (log entry 6). -/
def Obligations.DecoderStepBeginsOrSkips : Prop :=
  (∀ (s : State) (dt : Time) (h : Head) (c : Coil) (e : Edge) (q : List Edge),
     (s.head h).busy ≤ dt.toNat → (s.head h).resync = false → (s.head h).phase1 = false → (s.head h).phase2 = false →
     (s.head h).nextCoil = some c → ((s.head h).line c).queue = e :: q → e.rise = true →
     (s.advance dt).tieAhead h e = false →
     let u := s.advance dt
     let l := (u.head h).line c
     exec (.decoderStep dt h) s = .next (u.setHead h
       { ((u.head h).setLine c { l with queue := q, overrun := l.overrun && decide (q ≠ []) }).setPhase c true with
         passage := some { dir := if c = .c1 then .forward else .reverse, firstRise := e.time }
         busy := 20 })) ∧
  (∀ (s : State) (dt : Time) (h : Head) (c : Coil) (e e' : Edge) (q : List Edge),
     (s.head h).busy ≤ dt.toNat → (s.head h).resync = false → (s.head h).nextCoil = some c →
     ((s.head h).line c).queue = e :: e' :: q → (s.head h).phaseOf c = e.rise → (s.advance dt).tieAhead h e = false →
     let u := s.advance dt
     let hs := (u.head h).setLine c { (u.head h).line c with queue := e' :: q }
     exec (.decoderStep dt h) s = .next ((u.setHead h
       { hs with resync := true, passage := none, busy := 20, faults := min (hs.faults + 1) 65535 }).raise
         .n5 (.head u.session.seq h))) ∧
  (∀ (s : State) (dt : Time) (h : Head) (c : Coil) (e : Edge) (q : List Edge),
     (s.head h).busy ≤ dt.toNat → (s.head h).nextCoil = some c → ((s.head h).line c).queue = e :: q →
     (s.advance dt).tieAhead h e = false →
     let u := s.advance dt
     let l := (u.head h).line c
     let taken : HeadState :=
       { (u.head h).setLine c { l with queue := q, overrun := l.overrun && decide (q ≠ []) } with busy := 20 }
     let emptied : Prop := taken.c1.queue = [] ∧ taken.c2.queue = []
     let reread (x : HeadState) : HeadState :=
       { x with phase1 := x.c1.filtered, phase2 := x.c2.filtered, resync := x.c1.filtered || x.c2.filtered }
     (∀ p, (s.head h).resync = false → (s.head h).passage = some p → c = (if p.dir = .forward then .c1 else .c2) →
       (s.head h).phase1 = decide (c = .c1) → (s.head h).phase2 = decide (c = .c2) → e.rise = false →
       exec (.decoderStep dt h) s = .next (u.setHead h { taken.setPhase c false with passage := none })) ∧
     ((s.head h).resync = true → (s.head h).phaseOf c ≠ e.rise →
       let x := taken.setPhase c e.rise
       (x.phase1 = false ∧ x.phase2 = false →
         exec (.decoderStep dt h) s = .next (u.setHead h { x with resync := false })) ∧
       (x.phase1 = true ∨ x.phase2 = true → ¬ emptied → exec (.decoderStep dt h) s = .next (u.setHead h x)) ∧
       (x.phase1 = true ∨ x.phase2 = true → emptied → exec (.decoderStep dt h) s = .next (u.setHead h (reread x)))) ∧
     ((s.head h).resync = true → (s.head h).phaseOf c = e.rise →
       let x : HeadState := { taken with passage := none }
       (¬ emptied → exec (.decoderStep dt h) s = .next (u.setHead h x)) ∧
       (emptied → exec (.decoderStep dt h) s = .next (u.setHead h (reread x)))) ∧
     ((s.head h).resync = false → (s.head h).phaseOf c = e.rise → emptied →
       exec (.decoderStep dt h) s = .next ((u.setHead h
         (reread { taken with passage := none, faults := min (taken.faults + 1) 65535 })).raise
           .n5 (.head u.session.seq h))))

/-- The step that clears the head by the far coil emits the crossing: its time is the middle of the last stay over both
coils, its interval the time between the two first rises, its speed the coil spacing over that interval, rounded and
clamped (R9, R10). That the emission stands at the start of the step of 20 microseconds, and that the step waits while an
edge of the same time is still to be committed, are the model's choices (log entry 6). -/
def Obligations.FarCoilEmitsTheCrossing : Prop :=
  ∀ (s : State) (dt : Time) (h : Head) (c : Coil) (e : Edge) (q : List Edge) (p : Passage) (r2 t1 t2 : Time)
    (sc : SiteConstants),
    (s.head h).busy ≤ dt.toNat → (s.head h).resync = false → c = (if p.dir = .forward then .c2 else .c1) →
    (s.head h).phase1 = decide (c = .c1) → (s.head h).phase2 = decide (c = .c2) →
    (s.head h).nextCoil = some c → ((s.head h).line c).queue = e :: q → e.rise = false →
    (s.head h).passage = some p → p.secondRise = some r2 → p.entry11 = some t1 → p.exit11 = some t2 →
    s.site = some sc → r2 ≠ p.firstRise → (s.advance dt).tieAhead h e = false →
    let u := s.advance dt
    let l := (u.head h).line c
    exec (.decoderStep dt h) s = .next (u.setHead h
      { ((u.head h).setLine c { l with queue := q, overrun := l.overrun && decide (q ≠ []) }).setPhase c false with
        passage := none
        busy := 20
        emitted := (u.head h).emitted ++
          [{ head := h, dir := p.dir, time := t1 + micros ((t2 - t1).toNat / 2), interval := r2 - p.firstRise
             speed := .present (clamp 0 65535 (roundDiv (sc.coilSpacing * 36000) (r2 - p.firstRise).toNat)) {} }] })

/-! ## Chapter 2: sessions -/

/-- A session opening: the sequence number rises, the session record begins afresh with the flags whose causes hold,
counts, Axle Table and Vehicle List are emptied, train raise and decimation counts go to 0, the ambient reference is
latched, and of the session timers only the one of the new state runs (R14, R15, R20, R23, R32, R107, R140, R168). The
latch: with a usable ambient index whose ring holds at least 16 unclipped samples among its newest 256, the reference is
their mean temperature, rounded, with their number; with no ambient index, an unusable one or fewer samples it is absent
(R106, R107). The count 0 and the latch time of an absent reference are the model's reading (log entry 24). -/
def Obligations.SessionOpens : Prop :=
  (∀ (s : State) (st : SessionState) (b : Bool), st = .armed ∨ st = .inTrain →
    let t := s.openSession st b
    t.session.state = st ∧ t.session.seq = s.session.seq + 1 ∧
    t.session.record = { seq := s.session.seq + 1, openTime := some s.clock, noApproach := b
                         incompleteStart := s.session.heldDiscarded
                         notSettledStart := decide (s.session.settleState ≠ .settled) } ∧
    t.session.entryHead = none ∧ t.session.reversalRaised = false ∧ t.session.rememberedApproach = false ∧
    t.session.heldDiscarded = false ∧ t.session.held = s.session.held ∧
    t.session.idle = none ∧ t.session.clear = none ∧ t.session.abandon = none ∧
    t.session.arm = (if st = .armed then some ⟨s.clock, seconds (s.constant (·.arm) 180)⟩ else none) ∧
    t.session.standstill = (if st = .inTrain then some ⟨s.clock, seconds (s.constant (·.standstill) 10)⟩ else none) ∧
    t.session.settle = s.session.settle ∧ t.session.settleState = s.session.settleState ∧
    t.heads = ⟨{ s.heads.a with count := 0 }, { s.heads.b with count := 0 }⟩ ∧
    t.axles = { tableSeq := s.session.seq + 1 } ∧ t.group = {} ∧
    t.thermal = { s.thermal with ambient := s.ambientLatch } ∧
    t.alert = { s.alert with trainRaises := .replicate 21 0 } ∧ t.port.decimation = .replicate 24 0 ∧
    t.rings = s.rings ∧ t.tables = s.tables ∧ t.gate = s.gate ∧ t.report = s.report ∧ t.node.nodes = s.node.nodes) ∧
  (∀ s : State,
    let noReference : Ambient := { value := none, count := 0, latched := some s.clock }
    ((∀ i e, s.channel? i = some e → e.kind ≠ .ambient) → s.ambientLatch = noReference) ∧
    (∀ (i : ChanIdx) (e : Channel), s.channel? i = some e → e.kind = .ambient →
      (∀ j f, s.channel? j = some f → f.kind = .ambient → j = i) →
      let set := ((s.rings[i]).drop ((s.rings[i]).length - 256)).filter fun x => decide (x.raw ≠ 0x7FFF#16 ∧ x.raw ≠ 0x8000#16)
      let temps := set.map fun x => clamp (-600) 3000 (roundDiv ((x.raw.toInt - e.offset) * e.gain) 4096)
      (s.unusable i ≠ none ∨ set.length < 16 → s.ambientLatch = noReference) ∧
      (s.unusable i = none → 16 ≤ set.length → s.ambientLatch =
        { value := some (roundDiv temps.sum set.length), count := set.length, latched := some s.clock })))

/-- A pin of an approach input that leaves the qualified level starts a qualification at the present time; one that returns
ends it with no change (R22). A pin that has stayed 5000 microseconds at the new level is taken as the qualified level. An
assertion is an approach edge: it opens a session in ARMED from IDLE, wakes the part from STANDBY into one, is remembered in
CLOSING, and is ignored in NOT_READY, ARMED, IN_TRAIN, STOPPED and CLEARING; a deassertion has no further effect (R22, R23,
R35, R39). What the wake does is in WakeDoes, with the model's choices there (log entries 37 and 38). -/
def Obligations.ApproachInputsQualify : Prop :=
  (∀ (s : State) (dt : Time) (i : Approach) (lvl : Bool), (s.session.approach i).pin ≠ lvl →
     (∀ t, (s.session.approach i).since = some t → reached (s.clock + dt) (t + micros 5000) = false) →
     let u := s.advance dt
     exec (.approachPinChange dt i lvl) s = .next (u.setApproach i
       { s.session.approach i with
         pin := lvl
         since := if lvl = (s.session.approach i).qualified then none else some u.clock })) ∧
  (∀ (s : State) (dt : Time) (i : Approach) (t : Time), (s.session.approach i).since = some t →
     reached (s.clock + dt) (t + micros 5000) = true →
     let u := (s.advance dt).setApproach i
       { s.session.approach i with qualified := (s.session.approach i).pin, since := none }
     ((s.session.approach i).pin = false → exec (.approachEdge dt i) s = .next u) ∧
     ((s.session.approach i).pin = true →
       (s.session.state = .idle → exec (.approachEdge dt i) s = .next (u.openSession .armed false)) ∧
       (s.session.state = .closing →
         exec (.approachEdge dt i) s = .next { u with session.rememberedApproach := true }) ∧
       (s.session.state ∈ [SessionState.notReady, .armed, .inTrain, .stopped, .clearing] →
         exec (.approachEdge dt i) s = .next u) ∧
       (s.session.state = .standby → exec (.approachEdge dt i) s =
         .next ((u.wake (match i with | .apr1 => .approach1 | .apr2 => .approach2) t).openSession .armed false))))

/-- A coil edge restarts the standstill timer in IN_TRAIN and the idle timer in IDLE, moves STOPPED and CLEARING back to
IN_TRAIN, wakes the part from STANDBY into a session with NO_APPROACH, and does nothing in NOT_READY, ARMED and CLOSING
(R13, R21, R25 to R27, R35, R39). What the wake does is in WakeDoes, with the model's choices there (log entries 37 and 38). -/
def Obligations.CoilEdgeIsTaken : Prop :=
  ∀ (s : State) (dt : Time) (h : Head) (c : Coil) (e : Time) (q : List Time),
    ((s.head h).line c).toSession = e :: q →
    let u := (s.advance dt).setHead h (((s.advance dt).head h).setLine c
      { (s.head h).line c with toSession := q })
    let standstill : Option Timer := some ⟨u.clock, seconds (u.constant (·.standstill) 10)⟩
    (s.session.state = .inTrain → exec (.coilEdge dt h c) s = .next { u with session.standstill := standstill }) ∧
    (s.session.state = .stopped ∨ s.session.state = .clearing → exec (.coilEdge dt h c) s = .next { u with
      session := { u.session with state := .inTrain, standstill, arm := none, clear := none, abandon := none, idle := none } }) ∧
    (s.session.state = .idle → exec (.coilEdge dt h c) s = .next { u with
      session.idle := some ⟨u.clock, seconds (u.constant (·.idle) 300)⟩ }) ∧
    (s.session.state = .standby →
      exec (.coilEdge dt h c) s = .next ((u.wake .headEdge e).openSession .inTrain true)) ∧
    (s.session.state ∈ [SessionState.notReady, .armed, .closing] → exec (.coilEdge dt h c) s = .next u)

/-- A wake: ACTIVE, the cause and time written, the settle timer started, RESUME and a time mark ready, every ring emptied,
every live node's last-frame time at the wake (R3, R39, R40, R41, R65, R80). A crossing in progress begun since STANDBY was
entered is kept; one begun before it is discarded, and with a phase other than 00 the decoder enters RESYNC, where with both
queues empty the phase is read from the filtered levels (R12, R19). That the crossing is told by a mark set at the entry to
STANDBY is the model's reading (log entry 19). That the time mark, the marks after it and the last-frame times take the
site-clock time at which the wake is taken, whatever stamp the wake cause record holds, and that RESUME comes before the
mark, are its choices (log entries 37 and 38). -/
def Obligations.WakeDoes : Prop :=
  ∀ (s : State) (cause : WakeCause) (stamp : Time),
    let t := s.wake cause stamp
    t.session = { s.session with
      power := .active, wakeCause := cause, wakeTime := stamp, settleState := .settling
      settle := some ⟨s.clock, seconds (s.constant (·.settle) 8)⟩ } ∧
    t.node = { s.node with
      nodes := t.node.nodes, ready := s.node.ready ++ [.resume, .timeMark s.clock], nextMark := s.clock + micros 1000 } ∧
    (∀ k : NodeAddr, t.node.nodes[k] = if s.node.nodes[k].status = .online ∨ s.node.nodes[k].status = .fault then
      { s.node.nodes[k] with lastFrame := some s.clock } else s.node.nodes[k]) ∧
    (∀ i : ChanIdx, t.rings[i] = []) ∧
    (∀ h : Head, (∀ p, (s.head h).passage = some p → p.beforeStandby = false) → t.head h = s.head h) ∧
    (∀ (h : Head) (p : Passage), (s.head h).passage = some p → p.beforeStandby = true →
      ((s.head h).phase1 = true ∨ (s.head h).phase2 = true →
        ((s.head h).c1.queue ≠ [] ∨ (s.head h).c2.queue ≠ [] →
          t.head h = { s.head h with passage := none, resync := true }) ∧
        ((s.head h).c1.queue = [] → (s.head h).c2.queue = [] → t.head h = { s.head h with
          passage := none, phase1 := (s.head h).c1.filtered, phase2 := (s.head h).c2.filtered
          resync := (s.head h).c1.filtered || (s.head h).c2.filtered })) ∧
      ((s.head h).phase1 = false → (s.head h).phase2 = false → (s.head h).resync = false →
        t.head h = { s.head h with passage := none })) ∧
    t.clock = s.clock ∧ t.axles = s.axles ∧ t.group = s.group ∧ t.alert = s.alert ∧ t.gate = s.gate ∧
    t.report = s.report ∧ t.port = s.port ∧ t.tables = s.tables ∧ t.thermal = s.thermal

/-- A crossing taken in IDLE opens a session in IN_TRAIN with NO_APPROACH and is applied as its first: it fixes entry
head and direction, brings the entry count to 1 and creates axle record 1 (R14, R15, R25, R27, R47). A crossing that was
emitted while no Site Constants had ever been activated is delivered and not applied: it changes no count, no record and no
session (R13); that this holds in every state in which it is taken is the model's reading (log entry 27). -/
def Obligations.CrossingOpensASession : Prop :=
  (∀ (s : State) (dt : Time) (h : Head) (x : Crossing) (q : List Crossing),
    (s.head h).emitted = x :: q → x.head = h → x.unsited = false → s.session.state = .idle →
    ∃ t, exec (.crossing dt h) s = .next t ∧
      t.session.state = .inTrain ∧ t.session.seq = s.session.seq + 1 ∧ t.session.entryHead = some h ∧
      t.session.record.noApproach = true ∧
      t.session.record.direction = some (match h with | .a => Direction.forward | .b => .reverse) ∧
      t.session.record.firstCrossing = some x.time ∧ t.session.record.lastCrossing = some x.time ∧
      t.session.standstill = some ⟨s.clock + dt, seconds (s.constant (·.standstill) 10)⟩ ∧ t.session.idle = none ∧
      (t.head h).count = 1 ∧ (t.head (otherHead h)).count = 0 ∧ (t.head h).emitted = q ∧
      t.axles.highWater = 1 ∧ t.axles.mismatch = 0 ∧
      ∃ r, t.axles.records = [r] ∧ r.ordinal = 1 ∧ r.position = .between ∧ r.passCount = 1 ∧ r.status = .none ∧
        r.entryTime = x.time ∧ r.entryInterval = x.interval ∧ r.entrySpeed = x.speed ∧ r.stopFlag = false ∧
        r.speed = .unformed ∧ r.spacing = .unformed ∧ r.exitTime = none) ∧
  (∀ (s : State) (dt : Time) (h : Head) (x : Crossing) (q : List Crossing),
    (s.head h).emitted = x :: q → x.unsited = true →
    exec (.crossing dt h) s =
      .next ((s.advance dt).setHead h { (s.advance dt).head h with emitted := q }))

/-- A crossing applied to an open session changes its head's count by its direction and no count of the other head, is taken
by the axle tracker as a rise or a fall of the entry or the exit count, becomes the last crossing, finds the session
IN_TRAIN and starts the standstill timer again; the first fixes entry head and direction, and one mirrored to its head marks
INCOMPLETE_START; the first against the session raises T2; against the session at 0 it is a head fault, which raises N5; at
65535 with the session it changes no count; an exit crossing with the session starts the EXIT_PULSE condition (R14, R15,
R26, R27, R28, R32, R46, R147). What a rise or a fall of a count does is in EntryRises, EntryFalls, ExitRises and ExitFalls.
That T2 is raised before the count changes is the model's reading (log entry 24). A crossing taken in CLOSING is held while
fewer than 8 are held; after that it is discarded with a head fault and marks the next session (R7, R36). -/
def Obligations.CrossingChangesItsCount : Prop :=
  (∀ (s : State) (dt : Time) (h g : Head) (d : Direction) (x : Crossing) (q : List Crossing),
     (s.head h).emitted = x :: q → x.head = h → x.unsited = false →
     s.session.state ∈ [SessionState.armed, .inTrain, .stopped, .clearing] →
     s.session.entryHead = some g → s.session.record.direction = some d → (s.head h).count ≤ 65535 →
     ∃ t, exec (.crossing dt h) s = .next t ∧
       (t.head h).count = (if x.dir = d then min ((s.head h).count + 1) 65535
         else (s.head h).count - 1) ∧
       (t.head (otherHead h)).count = (s.head (otherHead h)).count ∧
       (t.head h).faults = (if x.dir ≠ d ∧ (s.head h).count = 0 then min ((s.head h).faults + 1) 65535
         else (s.head h).faults) ∧
       (t.head h).emitted = q ∧ t.session.state = .inTrain ∧ t.session.entryHead = some g ∧
       t.session.standstill = some ⟨s.clock + dt, seconds (s.constant (·.standstill) 10)⟩ ∧
       t.session.record.direction = some d ∧ t.session.record.lastCrossing = some x.time ∧
       t.session.seq = s.session.seq ∧ (t.session.reversalRaised = true ↔ s.session.reversalRaised = true ∨ x.dir ≠ d) ∧
       (t.gate.exitPulse = if x.dir = d ∧ h ≠ g then some (s.clock + dt) else s.gate.exitPulse)) ∧
  (∀ (s : State) (dt : Time) (h : Head) (x : Crossing) (q : List Crossing),
     (s.head h).emitted = x :: q → x.head = h → x.unsited = false →
     s.session.state ∈ [SessionState.armed, .inTrain, .stopped, .clearing] →
     let u := (s.advance dt).setHead h { (s.advance dt).head h with emitted := q }
     let n := (s.head h).count
     let counted (y : State) (k : Nat) : State := y.setHead h { y.head h with count := k }
     let finished (y : State) : State := { y with session := { y.session with
       state := .inTrain, standstill := some ⟨u.clock, seconds (s.constant (·.standstill) 10)⟩
       arm := none, clear := none, abandon := none, idle := none
       record := { y.session.record with lastCrossing := some x.time } } }
     (∀ (g : Head) (d : Direction), s.session.entryHead = some g → s.session.record.direction = some d →
       let w : State := if x.dir = d ∨ s.session.reversalRaised = true then u
         else ({ u with session.reversalRaised := true } : State).raise .t2 (.head s.session.seq h)
       (x.dir = d → n < 65535 → h = g → exec (.crossing dt h) s = .next (finished ((counted u (n + 1)).entryRise (n + 1) x))) ∧
       (x.dir = d → n < 65535 → h ≠ g → exec (.crossing dt h) s = .next (finished
         { (counted u (n + 1)).exitRise (n + 1) x with gate.exitPulse := some u.clock })) ∧
       (x.dir = d → 65535 ≤ n → exec (.crossing dt h) s = .next (finished
         (if h = g then u else { u with gate.exitPulse := some u.clock }))) ∧
       (x.dir ≠ d → n ≠ 0 → h = g → exec (.crossing dt h) s = .next (finished ((counted w (n - 1)).entryFall n))) ∧
       (x.dir ≠ d → n ≠ 0 → h ≠ g → exec (.crossing dt h) s = .next (finished ((counted w (n - 1)).exitFall n))) ∧
       (x.dir ≠ d → n = 0 → exec (.crossing dt h) s = .next (finished
         ((w.setHead h { w.head h with faults := min ((w.head h).faults + 1) 65535 }).raise .n5 (.head s.session.seq h))))) ∧
     (s.session.entryHead = none →
       let dir : Direction := match h with | .a => .forward | .b => .reverse
       let fixed : State := { u with
         session.entryHead := some h
         session.record := { s.session.record with
           direction := some dir, firstCrossing := some x.time
           incompleteStart := s.session.record.incompleteStart || decide (x.dir ≠ dir) } }
       (n < 65535 → exec (.crossing dt h) s = .next (finished ((counted fixed (n + 1)).entryRise (n + 1) x))) ∧
       (65535 ≤ n → exec (.crossing dt h) s = .next (finished fixed)))) ∧
  (∀ (s : State) (dt : Time) (h : Head) (x : Crossing) (q : List Crossing),
     (s.head h).emitted = x :: q → x.head = h → x.unsited = false → s.session.state = .closing →
     let u := s.advance dt
     (s.session.held.length < 8 → exec (.crossing dt h) s = .next
       { u.setHead h { u.head h with emitted := q } with session.held := s.session.held ++ [x] }) ∧
     (8 ≤ s.session.held.length → exec (.crossing dt h) s = .next
       (({ u.setHead h { u.head h with emitted := q, faults := min ((u.head h).faults + 1) 65535 } with
         session.heldDiscarded := true } : State).raise .n5 (.head s.session.seq h))))

/-- Arm expiry ends the session as a false approach: T8, one more false approach, IDLE with its timer (R26). Standstill
expiry: a cleared site moves to CLEARING and starts the clear timer; any other moves to STOPPED, which gives the stop flag
to every record BETWEEN, starts the abandon timer and raises T3 (R28, R29, R55). That T8 is raised before and T3 after the
change of state is the model's reading (log entry 24). -/
def Obligations.ArmAndStandstillExpire : Prop :=
  (∀ (s : State) (dt : Time) (tm : Timer), s.session.state = .armed → s.session.arm = some tm →
     reached (s.clock + dt) (tm.start + tm.length) = true →
     let u := (s.advance dt).raise .t8 (.train s.session.seq)
     exec (.armExpiry dt) s = .next { u with session := { u.session with
       state := .idle, falseApproaches := min (s.session.falseApproaches + 1) 65535
       idle := some ⟨s.clock + dt, seconds (s.constant (·.idle) 300)⟩
       arm := none, standstill := none, clear := none, abandon := none } }) ∧
  (∀ (s : State) (dt : Time) (tm : Timer), s.session.state = .inTrain → s.session.standstill = some tm →
     reached (s.clock + dt) (tm.start + tm.length) = true →
     let u := s.advance dt
     let stopped := { s.session with arm := none, standstill := none, clear := none, abandon := none, idle := none }
     (s.entryCount = s.exitCount → exec (.standstillExpiry dt) s = .next { u with session := { stopped with
       state := .clearing, clear := some ⟨u.clock, seconds (s.constant (·.clear) 8)⟩ } }) ∧
     (s.entryCount ≠ s.exitCount → exec (.standstillExpiry dt) s = .next (({ u with
       session := { stopped with
         state := .stopped, abandon := some ⟨u.clock, seconds (s.constant (·.abandon) 20 * 60)⟩ }
       axles.records := s.axles.records.map fun r =>
         if r.position = .between then { r with stopFlag := true } else r } : State).raise .t3 (.train s.session.seq))))

/-- Clear expiry closes NORMAL, or WITHDRAWN with the entry count at 0; abandon expiry closes ABANDONED and raises T4; no
axle gains a stop flag (R29, R30, R33). Idle expiry enters STANDBY: power STANDBY, every session timer and the settle timer
stopped, settle state WAITING, HALT to every node, every autozero block emptied; settle expiry sets SETTLED (R25, R38, R41,
R102). That the entry to STANDBY marks the crossings in progress, so that a wake can tell them from those begun later (R19),
is the model's reading (log entry 19), and so is it that T4 is raised after the change of state (log entry 24). -/
def Obligations.OtherTimersExpire : Prop :=
  (∀ (s : State) (dt : Time) (tm : Timer), reached (s.clock + dt) (tm.start + tm.length) = true →
     let u := s.advance dt
     let closing (c : Closure) : State := { u with session := { s.session with
       state := .closing, arm := none, standstill := none, clear := none, abandon := none, idle := none
       record := { s.session.record with closure := some c, closeStart := some u.clock } } }
     (s.session.state = .clearing → s.session.clear = some tm →
       exec (.clearExpiry dt) s = .next (closing (if s.entryCount = 0 then .withdrawn else .normal))) ∧
     (s.session.state = .stopped → s.session.abandon = some tm →
       exec (.abandonExpiry dt) s = .next ((closing .abandoned).raise .t4 (.train s.session.seq)))) ∧
  (∀ (s : State) (dt : Time) (tm : Timer), reached (s.clock + dt) (tm.start + tm.length) = true →
     let u := s.advance dt
     (s.session.state = .idle → s.session.idle = some tm → ∃ t, exec (.idleExpiry dt) s = .next t ∧
       t = { u with
         session := { s.session with
           state := .standby, power := .standby, settle := none, settleState := .waiting
           arm := none, standstill := none, clear := none, abandon := none, idle := none }
         node.ready := s.node.ready ++ [.halt none]
         heads := t.heads
         load.zero := t.load.zero } ∧
       (∀ h : Head, t.head h = { u.head h with
         passage := (s.head h).passage.map fun p => { p with beforeStandby := true } }) ∧
       (∀ i : ChanIdx, t.load.zero[i] = s.load.zero[i].map fun z => { z with count := 0, sum := 0 })) ∧
     (s.session.settleState = .settling → s.session.settle = some tm → exec (.settleExpiry dt) s = .next
       { u with session := { s.session with settle := none, settleState := .settled } }))

/-- CLOSE TRAIN in IN_TRAIN or STOPPED closes FORCED and answers OK with the train sequence number; in any other state it
answers NO_TRAIN and changes nothing else (R31). STANDBY by session state: NOT_READY refuses it NOT_READY, an open session
TRAIN_ACTIVE, STANDBY answers OK with no effect, and IDLE enters STANDBY as idle expiry does (R21, R38). WAKE in STANDBY
wakes with cause STATION_WAKE into IDLE, and in any other state answers OK and changes nothing (R39). That the entry to
STANDBY marks the crossings in progress is the model's reading of R19 (log entry 19); what the wake does is in WakeDoes,
with the model's choices there (log entries 37 and 38). -/
def Obligations.SessionCommandsAnswer : Prop :=
  (∀ (s : State) (dt : Time) (tag : Byte) (rest : List Command),
     s.port.commands = ⟨tag, [0x08]⟩ :: rest → s.replyRoom = true →
     let u := s.advance dt
     (s.session.state = .inTrain ∨ s.session.state = .stopped → exec (.closeTrain dt) s = .next
       (({ u with session := { s.session with
         state := .closing, arm := none, standstill := none, clear := none, abandon := none, idle := none
         record := { s.session.record with closure := some .forced, closeStart := some u.clock } } } : State).replied rest
         ⟨tag, 0x08, .ok, leHalf s.session.seq⟩)) ∧
     (s.session.state ≠ .inTrain → s.session.state ≠ .stopped →
       exec (.closeTrain dt) s = .next (u.replied rest ⟨tag, 0x08, .noTrain, []⟩))) ∧
  (∀ (s : State) (dt : Time) (tag : Byte) (rest : List Command), s.replyRoom = true →
     let u := s.advance dt
     (s.port.commands = ⟨tag, [0x06]⟩ :: rest →
       (s.session.state = .notReady → exec (.standby dt) s = .next (u.replied rest ⟨tag, 0x06, .notReady, []⟩)) ∧
       (s.sessionOpen = true → exec (.standby dt) s = .next (u.replied rest ⟨tag, 0x06, .trainActive, []⟩)) ∧
       (s.session.state = .standby → exec (.standby dt) s = .next (u.replied rest ⟨tag, 0x06, .ok, []⟩)) ∧
       (s.session.state = .idle →
         exec (.standby dt) s = .next (u.enterStandby.replied rest ⟨tag, 0x06, .ok, []⟩))) ∧
     (s.port.commands = ⟨tag, [0x07]⟩ :: rest →
       (s.session.state ≠ .standby → exec (.wake dt) s = .next (u.replied rest ⟨tag, 0x07, .ok, []⟩)) ∧
       (s.session.state = .standby → ∃ t, exec (.wake dt) s = .next t ∧
         t = { (u.wake .stationWake u.clock).replied rest ⟨tag, 0x07, .ok, []⟩ with session := t.session } ∧
         t.session = { s.session with
           state := .idle, power := .active, wakeCause := .stationWake, wakeTime := u.clock, settleState := .settling
           settle := some ⟨u.clock, seconds (s.constant (·.settle) 8)⟩
           idle := some ⟨u.clock, seconds (s.constant (·.idle) 300)⟩
           arm := none, standstill := none, clear := none, abandon := none })))

/-! ## Chapter 3: the Axle Table -/

/-- A count change on the entry head's count. A rise to a new ordinal up to 1024 creates its record BETWEEN; one to a new
ordinal above 1024 creates none, and the first of them sets TRUNCATED and raises T5; each is handed to the camera; a rise
to a record BEFORE_ENTRY is a re-entry that raises its pass count, up to 255, and keeps its entry fields; a rise to a record
elsewhere is a mismatch; a rise to an old ordinal above 1024 does nothing (R47, R51, R57, R149). -/
def Obligations.EntryRises : Prop :=
  ∀ (s : State) (k : Nat) (x : Crossing),
    (s.axles.highWater < k → k ≤ 1024 → s.entryRise k x =
      ({ s with
        axles.highWater := k
        axles.records := s.axles.records ++ [{
          ordinal := k, position := .between, passCount := 1, status := .none, entryTime := x.time
          entryInterval := x.interval, entrySpeed := x.speed }] } : State).scheduleCamera k x) ∧
    (s.axles.highWater < k → 1024 < k →
      (s.axles.truncated = true → s.entryRise k x = ({ s with axles.highWater := k } : State).scheduleCamera k x) ∧
      (s.axles.truncated = false → s.entryRise k x =
        (({ s with axles.highWater := k, axles.truncated := true } : State).raise .t5
          (.train s.session.seq)).scheduleCamera k x)) ∧
    (s.AxleTableSound → k ≤ s.axles.highWater → 1024 < k → s.entryRise k x = s) ∧
    (∀ r, k ≤ s.axles.highWater → s.record? k = some r → r.position = .beforeEntry → s.entryRise k x =
      s.updRecord k fun r => { r with position := .between, passCount := min (r.passCount + 1) 255 }) ∧
    (∀ r, k ≤ s.axles.highWater → s.record? k = some r → r.position ≠ .beforeEntry → s.entryRise k x =
      { s with axles.mismatch := min (s.axles.mismatch + 1) 65535 })

/-- The entry count falling from k: a record BETWEEN becomes BEFORE_ENTRY and keeps all else, a record elsewhere is a
mismatch, and above 1024 nothing happens (R48). -/
def Obligations.EntryFalls : Prop :=
  ∀ (s : State) (k : Nat), s.AxleTableSound →
    (∀ r, s.record? k = some r → r.position = .between →
      s.entryFall k = s.updRecord k fun r => { r with position := .beforeEntry }) ∧
    (∀ r, s.record? k = some r → r.position = .beforeEntry ∨ r.position = .beyondExit →
      s.entryFall k = { s with axles.mismatch := min (s.axles.mismatch + 1) 65535 }) ∧
    (1024 < k → s.entryFall k = s)

/-- The exit count falling from k: a record BEYOND_EXIT becomes BETWEEN and keeps all else; a record elsewhere, or none
at or below 1024, is a mismatch; above 1024 nothing happens (R50). -/
def Obligations.ExitFalls : Prop :=
  ∀ (s : State) (k : Nat), s.AxleTableSound →
    (∀ r, s.record? k = some r → r.position = .beyondExit →
      s.exitFall k = s.updRecord k fun r => { r with position := .between }) ∧
    (∀ r, s.record? k = some r → r.position = .beforeEntry ∨ r.position = .between →
      s.exitFall k = { s with axles.mismatch := min (s.axles.mismatch + 1) 65535 }) ∧
    (k ≤ 1024 → s.record? k = none → s.exitFall k = { s with axles.mismatch := min (s.axles.mismatch + 1) 65535 }) ∧
    (1024 < k → s.exitFall k = s)

/-- The exit count rising to k: beyond the entry count it is a mismatch; above 1024 nothing happens; a later exit only
moves the record; the first exit moves it, sets IN_FLIGHT, writes the exit fields, forms the speed over the head spacing,
makes the plausibility and steadiness tests, forms the spacing to the axle before it, starts one load part and one bearing
part with the axle's data and tells segmentation (R16 to R18, R49, R53, R57, R84, R109). What the parts hold at their
beginning is in PartsAreRead. That the steadiness test is made where no speed is formed is the model's choice (log entry
31). -/
def Obligations.ExitRises : Prop :=
  ∀ (s : State) (k : Nat) (x : Crossing),
    (s.entryCount < k → s.exitRise k x = { s with axles.mismatch := min (s.axles.mismatch + 1) 65535 }) ∧
    (s.AxleTableSound → k ≤ s.entryCount → 1024 < k → s.exitRise k x = s) ∧
    (∀ r, k ≤ s.entryCount → s.record? k = some r → r.position = .between → r.status ≠ .none →
      s.exitRise k x = s.updRecord k fun r => { r with position := .beyondExit }) ∧
    (∀ r, k ≤ s.entryCount → s.record? k = some r → r.position ≠ .between →
      s.exitRise k x = { s with axles.mismatch := min (s.axles.mismatch + 1) 65535 }) ∧
    (∀ (r : AxleRecord) (sc : SiteConstants), s.AxleTableSound → k ≤ s.entryCount → s.record? k = some r →
      r.position = .between → r.status = .none → s.site = some sc →
      let t := s.exitRise k x
      (∃ r', t.record? k = some r' ∧ r'.position = .beyondExit ∧ r'.status = .inFlight ∧ r'.exitTime = some x.time ∧
        r'.exitInterval = some x.interval ∧ r'.exitSpeed = x.speed ∧ r'.passCount = r.passCount ∧
        r'.stopFlag = r.stopFlag ∧ r'.load = r.load ∧ r'.bearing = r.bearing ∧
        r'.speed = (if x.time = r.entryTime ∨ k ∈ s.axles.overdue then .absent .headDisagree
          else .present (clamp 0 65535 (roundDiv (sc.lab * 36000) (x.time - r.entryTime).toNat)) {}) ∧
        r'.headDisagree = disagrees r'.speed r.entrySpeed ∧ r'.unsteady = isUnsteady r.entrySpeed x.speed ∧
        (k = 1 → r'.spacing = r.spacing) ∧
        (∀ p, k ≠ 1 → s.record? (k - 1) = some p → r'.spacing = spacingOf (some sc) p r') ∧
        (∀ d, s.session.record.direction = some d →
          let a : AxleData :=
            { ordinal := k, tE := r.entryTime, tX := x.time, dt := x.time - r.entryTime, speed := r'.speed
              stopFlag := r.stopFlag, headDisagree := r'.headDisagree, unsteady := r'.unsteady, dir := d, start := s.clock }
          t.load.parts = s.load.parts ++ [s.newLoadPart sc a] ∧
          t.thermal.parts = s.thermal.parts ++ [s.newBearingPart sc a])) ∧
      (∀ j, j ≠ k → t.record? j = s.record? j) ∧
      t.axles.inFlight = s.axles.inFlight + 1 ∧ t.load.parts.length = s.load.parts.length + 1 ∧
      t.thermal.parts.length = s.thermal.parts.length + 1 ∧ t.group.notices = s.group.notices + 1 ∧
      t.heads = s.heads ∧ t.session = s.session)

/-- The plausibility and steadiness tests: the coil-pair speed differs by more than 25 % of itself, or is absent; the
two coil-pair speeds differ by more than 15 % of their mean (R17). The spacing of an axle: on the head basis when both
times over the zone are usable, on the coil basis otherwise, and absent when that has no interval (R18). -/
def Obligations.SpeedTestsAndSpacing : Prop :=
  (∀ (v e x : Int) (m1 m2 : Marks) (r : Absence) (q : Quantity),
     (disagrees (.present v m1) (.present e m2) = true ↔ 25 * e < |v - e| * 100) ∧
     disagrees (.absent r) q = true ∧ disagrees q (.absent r) = true ∧
     (isUnsteady (.present e m1) (.present x m2) = true ↔ 15 * (e + x) < |e - x| * 200) ∧
     isUnsteady (.absent r) q = false ∧ isUnsteady q (.absent r) = false) ∧
  (∀ (sc : SiteConstants) (p r : AxleRecord) (tp tr : Time), p.exitTime = some tp → r.exitTime = some tr →
     let gap := (r.entryTime - p.entryTime).toNat
     let usable (a : AxleRecord) : Prop := a.headDisagree = false ∧ a.stopFlag = false
     let c := p.entryInterval.toNat + r.entryInterval.toNat
     (usable p → usable r → spacingOf (some sc) p r = .present (clamp 0 65535 (roundDiv (gap * sc.lab * 2)
       ((tp - p.entryTime).toNat + (tr - r.entryTime).toNat))) {}) ∧
     (¬ (usable p ∧ usable r) → c ≠ 0 → spacingOf (some sc) p r =
       .present (clamp 0 65535 (roundDiv (gap * sc.coilSpacing * 2) c)) { coilBased := true }) ∧
     (¬ (usable p ∧ usable r) → c = 0 → spacingOf (some sc) p r = .absent .headDisagree))

/-- A record of status NONE becomes overdue 30 min after its entry time (R53). READ AXLE: RANGE for ordinal 0 or above
1024, the record with its session's number when there is one, EMPTY with the number when there is none (R60). The index a
RANGE reply carries is free (log entry 11). The record's 108 bytes by their offsets (R179, Table 11.9); its marks and bay
counts are sent as clear and 0 while unformed (log entry 32). -/
def Obligations.OverdueAndReadAxle : Prop :=
  (∀ (s : State) (dt : Time) (k : Nat) (r : AxleRecord), s.record? k = some r → r.status = .none →
     reached (s.clock + dt) (r.entryTime + 1800000000) = true → k ∉ s.axles.overdue →
     exec (.axleOverdue dt k) s = .next { s.advance dt with axles.overdue := s.axles.overdue ++ [k] }) ∧
  (∀ (s : State) (dt : Time) (tag lo hi : Byte) (rest : List Command),
     s.port.commands = ⟨tag, [0x09, lo, hi]⟩ :: rest → s.replyRoom = true →
     let u := s.advance dt
     let k := lo.toNat + 256 * hi.toNat
     (k = 0 ∨ 1024 < k → ∃ i : Half, exec (.readAxle dt) s = .next
       { u.replied rest ⟨tag, 0x09, .range, leHalf i⟩ with freeCount := s.freeCount + 1 }) ∧
     (∀ r, 1 ≤ k → k ≤ 1024 → s.record? k = some r → exec (.readAxle dt) s = .next
       (u.replied rest ⟨tag, 0x09, .ok, leHalf s.axles.tableSeq ++ r.bytes⟩)) ∧
     (1 ≤ k → k ≤ 1024 → s.record? k = none → exec (.readAxle dt) s = .next
       (u.replied rest ⟨tag, 0x09, .empty, leHalf s.axles.tableSeq⟩))) ∧
  (∀ r : AxleRecord,
     let field (o n : Nat) : List Byte := (r.bytes.drop o).take n
     let number (w : Nat) (v : Nat) : List Byte := (List.range w).map fun i => BitVec.ofNat 8 (v / 256 ^ i)
     let flag (b : Bool) (v : Nat) : Nat := if b then v else 0
     let quantity (q : Quantity) : List Byte :=
       match q with
       | .unformed => [0, 0, 0xFF, 0]
       | .absent a => [0, 0, match a with
           | .noChannel => 1 | .speedRange => 2 | .stopInZone => 3 | .stale => 4 | .short => 5 | .clipped => 6
           | .headDisagree => 7 | .notSettled => 8 | .noAmbient => 9, 0]
       | .present v m => number 2 (BitVec.ofInt 16 v).toNat ++ [0, BitVec.ofNat 8 (flag m.fewBays 1 + flag m.unsteady 2 +
           flag m.drift 4 + flag m.peakClipped 8 + flag m.coilBased 32)]
     r.bytes.length = 108 ∧ field 0 2 = number 2 r.ordinal ∧
     field 2 2 = [match r.position with | .beforeEntry => 0 | .between => 1 | .beyondExit => 2, BitVec.ofNat 8 r.passCount] ∧
     field 4 2 = [match r.status with | .none => 0 | .inFlight => 1 | .done => 2, BitVec.ofNat 8 (flag r.stopFlag 1 +
       flag r.headDisagree 2 + flag r.unsteady 4 + flag r.exitTime.isSome 8)] ∧
     field 6 2 = [match r.camera with | none => 0 | some .fired => 1 | some .late => 2 | some .missed => 3,
       BitVec.ofNat 8 r.alerts.length] ∧
     field 8 16 = number 4 r.entryTime.toNat ++ number 4 (r.exitTime.getD 0).toNat ++ number 4 r.entryInterval.toNat ++
       number 4 (r.exitInterval.getD 0).toNat ∧
     field 24 16 = quantity r.entrySpeed ++ quantity r.exitSpeed ++ quantity r.speed ++ quantity r.spacing ∧
     field 40 2 = number 2 (r.vehicle.getD 0) ∧
     (r.alerts.length ≤ 7 → field 42 7 =
       (r.alerts.map fun k => BitVec.ofNat 8 k.code) ++ List.replicate (7 - r.alerts.length) 0) ∧
     field 49 3 = [0, BitVec.ofNat 8 r.load.r1.bayCount, BitVec.ofNat 8 r.load.r2.bayCount] ∧
     (∀ rail : Rail, field (match rail with | .r1 => 52 | .r2 => 68) 16 = quantity (r.load.get rail).static ++
       quantity (r.load.get rail).peak ++ quantity (r.load.get rail).increment ++ quantity (r.load.get rail).ratio) ∧
     field 84 24 = quantity r.axleLoad ++ quantity r.bearing.r1.peak ++ quantity r.bearing.r1.rise ++
       quantity r.bearing.r2.peak ++ quantity r.bearing.r2.rise ++ quantity r.sideDiff)

/-! ## Chapter 4: nodes and the sample store -/

/-- At its mark time a TIME MARK carrying the scheduled time becomes ready, and the next is scheduled 1000 microseconds
later in ACTIVE and 100 000 in STANDBY (R3). The downstream line sends the frame that became ready first when the frame on
it ends (R62); the end of a POLL is the beginning of its answer slots (R69); an IDENT, a STATUS REQUEST and an ITEM REQUEST
start their answer limit; the first request of an item attempts it, counts it and gives the time from which its repeats are
limited, and a repeat does neither (R64, R70, R71, R73, R75). That the row of the next sending stands for the end of a
frame, that an answer limit runs from the sending, that the power state is read when the mark becomes ready, and that a mark
follows the frames ready before it, are the model's choices (log entries 14, 8, 33 and 40). -/
def Obligations.MarksAndDownstreamLine : Prop :=
  ∀ (s : State) (dt : Time),
    let u := s.advance dt
    let after : Option Work :=
      if s.node.work = some (.poll true none) then some (.poll true (some u.clock)) else s.node.work
    (reached (s.clock + dt) s.node.nextMark = true → exec (.timeMark dt) s = .next { u with
      node.ready := s.node.ready ++ [.timeMark s.node.nextMark]
      node.nextMark := s.node.nextMark + (if s.session.power = .active then 1000 else 100000) }) ∧
    (s.node.ready = [] → exec (.downstreamSend dt) s = .next { u with node.line := none, node.work := after }) ∧
    (∀ f q, s.node.ready = f :: q → f.isRequest = false →
      exec (.downstreamSend dt) s = .next { u with node.ready := q, node.line := some f, node.work := after }) ∧
    (∀ k q, s.node.ready = .ident k :: q → s.node.work = some (.ident k none) →
      exec (.downstreamSend dt) s = .next { u with
        node.ready := q, node.line := some (.ident k), node.work := some (.ident k (some u.clock)) }) ∧
    (∀ q, s.node.ready = .poll :: q → s.node.work = some (.poll false none) →
      exec (.downstreamSend dt) s = .next { u with
        node.ready := q, node.line := some .poll, node.work := some (.poll true none) }) ∧
    (∀ k q, s.node.ready = .statusRequest k :: q → s.node.work = some (.status k none) →
      exec (.downstreamSend dt) s = .next { u with
        node.ready := q, node.line := some (.statusRequest k), node.work := some (.status k (some u.clock)) }) ∧
    (∀ k register write value q (t : Transaction), s.node.ready = .itemRequest k register write value :: q →
      s.node.work = some (.item none) → s.node.slot = some t →
      (t.firstAttempt = none → exec (.downstreamSend dt) s = .next { u with
        node.ready := q, node.line := some (.itemRequest k register write value), node.work := some (.item (some u.clock))
        node.slot := some { t with attempted := t.attempted + 1, firstAttempt := some u.clock } }) ∧
      (t.firstAttempt ≠ none → exec (.downstreamSend dt) s = .next { u with
        node.ready := q, node.line := some (.itemRequest k register write value)
        node.work := some (.item (some u.clock)) }))

/-- Identification: with no work in flight and no status read waiting, an IDENT goes to the lowest address whose
identification is pending; its answer makes the node ONLINE with the declared type and roles and no faults, and in STANDBY
the node is sent HALT; the first THERMAL node after power-on starts the settle timer from WAITING; with no answer within
2000 microseconds the node stays as it is and its identification is no longer pending (R41, R62 to R64, R68). That the limit
runs from the sending of the request, that the first THERMAL node is told by a bit that a site reset keeps, and that the
IDENT is in flight from when it becomes ready, are the model's readings and choices (log entries 8, 20 and 36). -/
def Obligations.IdentificationRuns : Prop :=
  ∀ (s : State) (dt : Time) (k : NodeAddr) (t : Time),
    let u := s.advance dt
    (s.node.work = none → (∀ j : NodeAddr, s.node.nodes[j].requesting = false ∧ s.node.nodes[j].owed = false) →
      s.node.nodes[k].identPending = true → (∀ j : NodeAddr, j < k → s.node.nodes[j].identPending = false) →
      exec (.ident dt) s = .next { u with
        node.ready := s.node.ready ++ [.ident k], node.work := some (.ident k none) }) ∧
    (s.node.work = some (.ident k (some t)) → reached (s.clock + dt) (t + 2000) = true →
      exec (.identTimeout dt) s = .next { u with
        node.work := none, node.nodes := s.node.nodes.set k { s.node.nodes[k] with identPending := false } }) ∧
    (∀ (frame : List Byte) (srq : Bool) (ty : NodeType) (roles : List Role),
      s.node.work = some (.ident k (some t)) → parseUp frame = some ⟨k, srq, .identAnswer ty roles⟩ →
      exec (.identAnswer dt frame) s = .next { u with
        node.work := none
        node.ready := s.node.ready ++ (if s.session.power = .standby then [.halt (some k)] else [])
        node.pollWanted := s.node.pollWanted || srq
        node.nodes := s.node.nodes.set k { s.node.nodes[k] with
          status := .online, type := some ty, roles := roles, faults := [], identPending := false
          lastFrame := some u.clock }
        session :=
          if ty = .thermal ∧ s.session.thermalSeen = false then
            if s.session.settleState = .waiting then { s.session with
              thermalSeen := true, settleState := .settling
              settle := some ⟨u.clock, seconds (s.constant (·.settle) 8)⟩ }
            else { s.session with thermalSeen := true }
          else s.session })

/-- Polling: a wanted poll goes out and is no longer wanted; an answer during it, from its sending to its end, marks its
sender as requesting; 1200 microseconds after the POLL ended on the line the poll ends, and is counted as spurious when no
node is requesting (R68, R69). That the POLL ends when the line is next served, that the wanted poll is cleared when the
POLL becomes ready, and that the poll is in flight from then, are the model's choices (log entries 14, 35 and 36). -/
def Obligations.PollingRuns : Prop :=
  ∀ (s : State) (dt t : Time),
    let u := s.advance dt
    (s.node.work = none → (∀ j : NodeAddr, s.node.nodes[j].requesting = false ∧ s.node.nodes[j].owed = false) →
      (∀ j : NodeAddr, s.node.nodes[j].identPending = false) → s.node.pollWanted = true →
      exec (.poll dt) s = .next { u with
        node.ready := s.node.ready ++ [.poll], node.work := some (.poll false none), node.pollWanted := false }) ∧
    (s.node.work = some (.poll true none) → s.node.ready = [] → exec (.downstreamSend dt) s = .next { u with
      node.line := none, node.work := some (.poll true (some u.clock)) }) ∧
    (∀ (ended : Option Time) (frame : List Byte) (k : NodeAddr) (srq : Bool), s.node.work = some (.poll true ended) →
      parseUp frame = some ⟨k, srq, .pollAnswer⟩ → s.node.nodes[k].status = .online ∨ s.node.nodes[k].status = .fault →
      exec (.pollAnswer dt frame) s = .next { u with node.nodes := s.node.nodes.set k { s.node.nodes[k] with
        lastFrame := some u.clock, requesting := true } }) ∧
    (s.node.work = some (.poll true (some t)) → reached (s.clock + dt) (t + 1200) = true →
      exec (.pollEnd dt) s = .next { u with
        node.work := none
        node.spurious := if ∃ k : NodeAddr, s.node.nodes[k].requesting = true then s.node.spurious
          else min (s.node.spurious + 1) 65535 })

/-- Status reads: with no work in flight the lowest address that is requesting or owed a read is asked. An answer with a
non-empty list replaces the fault list by its entries, each once, in the node's order; it moves ONLINE to FAULT with N2, and
raises N3 once for each channel it names that the list before did not. An empty list returns FAULT to ONLINE, with HALT in
STANDBY. With no answer in 2000 microseconds the read ends and an owed read stays owed (R62, R66 to R68, R70). That the
limit runs from the sending, HALT on the return from FAULT, and that an entry with a channel byte of 8 to 254 is taken as
one of that channel, and that the read is in flight from when its request becomes ready, are the model's readings and
choices (log entries 8, 21, 34 and 36). -/
def Obligations.StatusReadsRun : Prop :=
  ∀ (s : State) (dt : Time) (k : NodeAddr) (t : Time),
    let u := s.advance dt
    let e := s.node.nodes[k]
    let answered (status : NodeStatus) (faults : List FaultEntry) : NodeEntry :=
      { e with status := status, faults := faults, owed := false, lastFrame := some u.clock }
    (s.node.work = none → e.requesting = true ∨ e.owed = true →
      (∀ j : NodeAddr, j < k → s.node.nodes[j].requesting = false ∧ s.node.nodes[j].owed = false) →
      exec (.statusRequest dt) s = .next { u with
        node.ready := s.node.ready ++ [.statusRequest k], node.work := some (.status k none)
        node.nodes := s.node.nodes.set k { e with requesting := false } }) ∧
    (s.node.work = some (.status k (some t)) → reached (s.clock + dt) (t + 2000) = true →
      exec (.statusReadTimeout dt) s = .next { u with node.work := none }) ∧
    (∀ (frame : List Byte) (srq : Bool), s.node.work = some (.status k (some t)) →
      parseUp frame = some ⟨k, srq, .statusAnswer []⟩ →
      (e.status = .online → exec (.statusAnswer dt frame) s = .next { u with
        node.work := none, node.pollWanted := s.node.pollWanted || srq
        node.nodes := s.node.nodes.set k (answered .online []) }) ∧
      (e.status = .fault → exec (.statusAnswer dt frame) s = .next { u with
        node.work := none, node.pollWanted := s.node.pollWanted || srq
        node.ready := s.node.ready ++ (if s.session.power = .standby then [.halt (some k)] else [])
        node.nodes := s.node.nodes.set k (answered .online []) })) ∧
    (∀ (frame : List Byte) (f : FaultEntry) (c : Nat), s.node.work = some (.status k (some t)) →
      parseUp frame = some ⟨k, false, .statusAnswer [f]⟩ → e.status = .online → e.faults = [] → f.channel = some c →
      exec (.statusAnswer dt frame) s = .next ((({ u with
        node.work := none
        node.nodes := s.node.nodes.set k (answered .fault [f]) } : State).raise
            .n2 (.node s.session.seq k)).raise .n3 (.node s.session.seq k))) ∧
    (∀ (frame : List Byte) (srq : Bool) (l : List FaultEntry), s.node.work = some (.status k (some t)) →
      parseUp frame = some ⟨k, srq, .statusAnswer l⟩ → l ≠ [] → e.status = .online ∨ e.status = .fault →
      let named := (l.filterMap (·.channel)).eraseDups.filter fun c => decide (∀ f ∈ e.faults, f.channel ≠ some c)
      ∃ t', exec (.statusAnswer dt frame) s = .next t' ∧
        t' = { u with
          alert := t'.alert, port.alertQ := t'.port.alertQ
          node := { s.node with
            work := none, pollWanted := s.node.pollWanted || srq
            nodes := s.node.nodes.set k (answered .fault l.eraseDups) } } ∧
        (t'.alertEntry .n2).count = (if e.status = .online then min ((s.alertEntry .n2).count + 1) 65535
          else (s.alertEntry .n2).count) ∧
        ((s.alertEntry .n3).count ≤ 65535 →
          (t'.alertEntry .n3).count = min ((s.alertEntry .n3).count + named.length) 65535) ∧
        (named ≠ [] → (t'.alertEntry .n3).last = some (.node s.session.seq k)) ∧
        (∀ j : AlertKind, j ≠ .n2 → j ≠ .n3 → t'.alertEntry j = s.alertEntry j))

/-- The site computer's transaction begins when no other work is in flight or waiting, and its first item's request becomes
ready; in SCAN the first request goes to the first ONLINE address from the start address on (R68, R73, R76). NODE
TRANSACTION with one good item: accepted into the slot when no session is open and the slot is EMPTY, refused TRAIN_ACTIVE
or BUSY otherwise (R72). That any disable byte but 0 sets the flag, and that the transaction is the work in flight from when
its first request becomes ready, are the model's reading and choice (log entries 16 and 36). -/
def Obligations.TransactionsBegin : Prop :=
  (∀ (s : State) (dt : Time) (t : Transaction) (i : TxItem) (l : List TxItem),
     s.node.work = none → s.nextStatus = none → s.nextIdent = none → s.node.pollWanted = false →
     s.node.slot = some t → t.inFlight = false → t.items = i :: l → t.index = 0 →
     let u := s.advance dt
     (t.mode ≠ .scan → exec (.transactionBegin dt) s = .next { u with
       node.ready := s.node.ready ++ [.itemRequest i.node i.register i.write i.value]
       node.slot := some { t with inFlight := true }, node.work := some (.item none) }) ∧
     (t.mode = .scan → ∀ k : NodeAddr, i.node.val ≤ k.val → s.node.nodes[k].status = .online →
       (∀ j : NodeAddr, i.node.val ≤ j.val → j.val < k.val → s.node.nodes[j].status ≠ .online) →
       exec (.transactionBegin dt) s = .next { u with
         node.ready := s.node.ready ++ [.itemRequest k i.register i.write i.value]
         node.slot := some { t with inFlight := true, index := k.val, firstAttempt := none }
         node.work := some (.item none) })) ∧
  (∀ (s : State) (dt : Time) (tag mode dis node reg acc v0 v1 : Byte) (rest : List Command) (m : TxMode),
     s.port.commands = ⟨tag, [0x0A, mode, dis, 1, node, reg, acc, v0, v1]⟩ :: rest → s.replyRoom = true →
     txModeOf mode.toNat = some m → acc.toNat ≤ 1 → ∀ h : 1 ≤ node.toNat ∧ node.toNat ≤ 6,
     let u := s.advance dt
     (s.sessionOpen = true → exec (.nodeTransaction dt) s = .next (u.replied rest ⟨tag, 0x0A, .trainActive, []⟩)) ∧
     (s.sessionOpen = false → s.node.slot ≠ none →
       exec (.nodeTransaction dt) s = .next (u.replied rest ⟨tag, 0x0A, .busy, []⟩)) ∧
     (s.sessionOpen = false → s.node.slot = none → exec (.nodeTransaction dt) s = .next { u with
       port.commands := rest
       node.slot := some {
         tag := tag, mode := m, disable := decide (dis ≠ 0)
         items := [{ node := ⟨node.toNat - 1, by omega⟩, register := reg, write := decide (acc = 1), value := v1 ++ v0 }] } }))

/-- What an answer makes of a transaction in each mode but SCAN (R74, R75). An answer to the item in flight, or its absence
after 2000 microseconds, resolves the item: the transaction that it ends leaves the slot EMPTY and offers its REPLY with
outcome and counts; one that it does not end sends its next item, and in BLOCK_REPEAT a refused item is sent again; the last
item answered ends a block COMPLETE (R71, R73 to R77). SCAN goes on at the next ONLINE address and ends SCAN_END past the
last, with a READ's value kept with its address (R76). A session opening ends a WAITING transaction at once and an IN_FLIGHT
one after the item on the port, with SESSION_OPENED (R77). That an item's index counts from 0, the widths in the reply and
the index before the value, the start of the limit, and that a request ready and not yet sent is still served after an
opening are the model's readings and choices (log entries 28, 13, 8 and 29). -/
def Obligations.ItemsAreResolved : Prop :=
  let reply (t : Transaction) (outcome : Byte) (remaining : Nat) : Reply :=
    { tag := t.tag, code := 0x0A, status := .ok
      results := [outcome] ++ le2 t.attempted ++ le2 t.accepted ++ le2 t.refused ++ le2 t.unanswered ++ le2 remaining ++
        t.values.flatMap fun v => le2 v.1 ++ leHalf v.2 }
  (∀ (t : Transaction) (now : Time) (v : Half),
     (t.mode = .single → t.verdict now (.accept v) = .ends .complete ∧ t.verdict now .refuse = .ends .refused ∧
       t.verdict now .noAnswer = .ends .noAnswer) ∧
     (t.mode = .blockStop → t.verdict now (.accept v) = .next ∧ t.verdict now .refuse = .ends .refused ∧
       t.verdict now .noAnswer = .ends .noAnswer) ∧
     (t.mode = .blockIgnore → t.verdict now (.accept v) = .next ∧ t.verdict now .refuse = .next ∧
       t.verdict now .noAnswer = if t.disable then .next else .ends .noAnswer) ∧
     (t.mode = .blockRepeat → t.verdict now (.accept v) = .next ∧
       t.verdict now .noAnswer = (if t.disable then .next else .ends .noAnswer) ∧
       ∀ f, t.firstAttempt = some f →
         t.verdict now .refuse = if reached now (f + 40000) then .ends .repeatTimeout else .again)) ∧
  (∀ (s : State) (dt : Time) (t : Transaction) (i : TxItem) (t0 : Time),
     s.node.work = some (.item (some t0)) → s.node.slot = some t → t.mode ≠ .scan → t.items[t.index]? = some i →
     let u := s.advance dt
     let left := t.items.length - t.attempted
     let refreshed := s.node.nodes.set i.node { s.node.nodes[i.node] with lastFrame := some u.clock }
     (t.sessionOpened = false →
       (∀ (frame : List Byte) (v : Half), parseUp frame = some ⟨i.node, false, .itemAnswer true v⟩ →
         s.node.nodes[i.node].status = .online → t.mode = .single → i.write = false →
         exec (.itemAnswer dt frame) s = .next
           (({ u with node.slot := none, node.work := none, node.nodes := refreshed } : State).offerReply
             (reply { t with accepted := t.accepted + 1, values := t.values ++ [(t.index, v)] } 0 left))) ∧
       (∀ (frame : List Byte) (v : Half), parseUp frame = some ⟨i.node, false, .itemAnswer true v⟩ →
         s.node.nodes[i.node].status = .online → t.mode ∈ [TxMode.blockStop, .blockIgnore, .blockRepeat] →
         t.items[t.index + 1]? = none → i.write = true → exec (.itemAnswer dt frame) s = .next
           (({ u with node.slot := none, node.work := none, node.nodes := refreshed } : State).offerReply
             (reply { t with accepted := t.accepted + 1 } 0 left))) ∧
       (reached (s.clock + dt) (t0 + 2000) = true → t.mode = .blockStop →
         exec (.itemTimeout dt) s = .next (({ u with node.slot := none, node.work := none } : State).offerReply
           (reply { t with unanswered := t.unanswered + 1 } 2 left))) ∧
       (∀ j, reached (s.clock + dt) (t0 + 2000) = true → t.mode = .blockIgnore → t.disable = true →
         t.items[t.index + 1]? = some j → exec (.itemTimeout dt) s = .next { u with
           node.ready := s.node.ready ++ [.itemRequest j.node j.register j.write j.value]
           node.slot := some { t with unanswered := t.unanswered + 1, index := t.index + 1, firstAttempt := none }
           node.work := some (.item none) }) ∧
       (∀ (frame : List Byte) (v : Half) (f : Time), parseUp frame = some ⟨i.node, false, .itemAnswer false v⟩ →
         s.node.nodes[i.node].status = .online → t.mode = .blockRepeat → t.firstAttempt = some f →
         reached (s.clock + dt) (f + 40000) = false → exec (.itemAnswer dt frame) s = .next { u with
           node.ready := s.node.ready ++ [.itemRequest i.node i.register i.write i.value]
           node.slot := some t, node.work := some (.item none), node.nodes := refreshed })) ∧
     (t.sessionOpened = true → reached (s.clock + dt) (t0 + 2000) = true →
       exec (.itemTimeout dt) s = .next (({ u with node.slot := none, node.work := none } : State).offerReply
         (reply { t with unanswered := t.unanswered + 1 } 5 left)))) ∧
  (∀ (s : State) (dt : Time) (t : Transaction) (i : TxItem) (l : List TxItem) (t0 : Time) (a : NodeAddr),
     s.node.work = some (.item (some t0)) → s.node.slot = some t → t.mode = .scan → t.items = i :: l → t.index = a.val →
     t.inFlight = true → t.sessionOpened = false →
     let u := s.advance dt
     (∀ k : NodeAddr, reached (s.clock + dt) (t0 + 2000) = true → a < k → s.node.nodes[k].status = .online →
       (∀ j : NodeAddr, a < j → j < k → s.node.nodes[j].status ≠ .online) →
       exec (.itemTimeout dt) s = .next { u with
         node.ready := s.node.ready ++ [.itemRequest k i.register i.write i.value]
         node.slot := some { t with unanswered := t.unanswered + 1, index := k.val, firstAttempt := none }
         node.work := some (.item none) }) ∧
     (∀ (frame : List Byte) (v : Half), parseUp frame = some ⟨a, false, .itemAnswer true v⟩ →
       s.node.nodes[a].status = .online → i.write = false → (∀ j : NodeAddr, a < j → s.node.nodes[j].status ≠ .online) →
       exec (.itemAnswer dt frame) s = .next (({ u with
         node.slot := none, node.work := none
         node.nodes := s.node.nodes.set a { s.node.nodes[a] with lastFrame := some u.clock } } : State).offerReply
           (reply { t with accepted := t.accepted + 1, values := t.values ++ [(a.val + 1, v)] } 4 0)))) ∧
  (∀ (s : State) (st : SessionState) (b : Bool) (t : Transaction), s.node.slot = some t →
     (t.inFlight = true →
       (s.openSession st b).node = { s.node with slot := some { t with sessionOpened := true } }) ∧
     (t.inFlight = false → t.mode ≠ .scan ∨ (∃ i l, t.items = i :: l) → s.port.heldReplies = [] →
       s.port.replyQ.length < 4 → ∃ left,
       (t.mode ≠ .scan → left = t.items.length - t.attempted) ∧
       (∀ i l, t.mode = .scan → t.items = i :: l → left = 6 - i.node.val) ∧
       (s.openSession st b).node = { s.node with slot := none } ∧
       (s.openSession st b).port.replyQ = s.port.replyQ ++ [.reply (reply t 5 left)]))

/-- A discarded node frame is counted and refreshes nothing; each 16th discard raises N6 with an empty source (R63). A
node ONLINE or in FAULT with no accepted frame for 5000 microseconds becomes SILENT in ACTIVE: its fault list is emptied
and N1 is raised with its address; in STANDBY the watch is suspended (R65). -/
def Obligations.DiscardsAndSilence : Prop :=
  (∀ (s : State) (dt : Time) (frame : List Byte), parseUp frame = none →
     let u := { s.advance dt with node.discards := min (s.node.discards + 1) 65535 }
     exec (.upstreamDiscard dt frame) s =
       .next (if s.node.discards < 65535 ∧ (s.node.discards + 1) % 16 = 0 then State.raise u .n6 .empty else u)) ∧
  (∀ (s : State) (dt : Time) (k : NodeAddr) (t : Time),
     s.node.nodes[k].status = .online ∨ s.node.nodes[k].status = .fault → s.node.nodes[k].lastFrame = some t →
     reached (s.clock + dt) (t + 5000) = true →
     let u := s.advance dt
     exec (.nodeSilence dt k) s =
       if s.session.power = .active then
         .next (({ u with
           node.nodes := s.node.nodes.set k { s.node.nodes[k] with status := .silent, faults := [] } } : State).raise
             .n1 (.node s.session.seq k))
       else .next u)

/-- The ring rule: a first sample, or one 250 microseconds after the newest, is stored without a gap mark; any later
one with it; none that is not later; and a full ring loses its oldest sample (R79). A ring whose newest time is 30 min old
is emptied, and no other ring changes (R80). A window read of an empty ring answers no samples and no newest time; one whose
start the ring has overwritten answers STALE; any other the samples of the window, in order, and the ring's newest time
(R82). An index is unusable for the first condition of Table 4.8 that fails (R81). -/
def Obligations.SampleStoreAnswers : Prop :=
  ((∀ (ring : List Sample) (n : Sample) (t : Time) (r : Half),
      ringSample [] t r = some ⟨t, r, false⟩ ∧
      ringSample (ring ++ [n]) (n.time + 250) r = some ⟨n.time + 250, r, false⟩ ∧
      (older n.time t = true → t ≠ n.time + 250 → ringSample (ring ++ [n]) t r = some ⟨t, r, true⟩) ∧
      (older n.time t = false → t ≠ n.time + 250 → ringSample (ring ++ [n]) t r = none) ∧
      (ring.length < 8192 → ringPush ring n = ring ++ [n]) ∧
      (ring.length = 8192 → ringPush ring n = ring.drop 1 ++ [n] ∧ (ringPush ring n).length = 8192)) ∧
   ((∀ (s : State) (dt : Time) (i : ChanIdx) (n : Sample), (s.rings[i]).getLast? = some n →
      reached (s.clock + dt) (n.time + 1800000000) = true →
      exec (.ringExpiry dt i) s = .next { s.advance dt with rings := s.rings.set i [] }) ∧
    (∀ (o n : Sample) (l ring : List Sample) (a b : Time),
      readWindow [] a b = .samples [] none ∧
      (older a o.time = true → readWindow (o :: l) a b = .stale) ∧
      (ring.head? = some o → ring.getLast? = some n → older a o.time = false →
        readWindow ring a b = .samples (ring.filter fun x => !older x.time a && older x.time b) (some n.time))))) ∧
  (∀ (s : State) (i : ChanIdx),
     (s.channel? i = none → s.unusable i = some .notValid) ∧
     (∀ e, s.channel? i = some e →
       let n := s.node.nodes[e.node]
       let faulty := ∃ f ∈ n.faults, f.channel = none ∨ f.channel = some e.channel
       (n.status = .absent → s.unusable i = some .nodeAbsent) ∧
       (n.status = .silent → s.unusable i = some .nodeSilent) ∧
       (n.status = .online ∨ n.status = .fault →
         (kindMatches e n = false → s.unusable i = some .kindMismatch) ∧
         (kindMatches e n = true → faulty → s.unusable i = some .channelFault) ∧
         (kindMatches e n = true → ¬ faulty → s.unusable i = none))))

/-- A SAMPLES frame from an ONLINE node: the node's last-frame time is refreshed, a set SRQ makes a poll wanted, each
channel's samples go to the ring of the entry that names it, unless the power state is STANDBY or the frame's channel count
is not the node's; every entry of the node votes on forwarding, and one yes forwards the frame once (R63, R78, R79, R168,
R178). With no session open in ACTIVE, each sample stored is offered to its index's autozero block: an unusable index or a
clipped sample empties it, a gap begins it anew, any other sample joins it (R100, R102); a block that fills in the frame is
left to AutozeroBlockEnds. A frame from a SILENT node finds it ONLINE with a status read owed, HALT sent in STANDBY and the
settle timer started as for an identified node (R41, R62, R64, R66; log entry 20). A frame from an ABSENT node makes its
identification pending and is neither stored nor forwarded (R64, R78). The vote of an entry in each mode, with its decimation
count after it (R168). -/
def Obligations.SamplesAreStored : Prop :=
  (∀ (s : State) (dt : Time) (frame : List Byte) (k : NodeAddr) (srq : Bool) (first : Time) (chs : List (List Half)),
     parseUp frame = some ⟨k, srq, .samples first chs⟩ → s.node.nodes[k].status = .online →
     let u := s.advance dt
     let stored : Bool := decide (s.session.power = .active ∧ chs.length = s.node.nodes[k].channelCount)
     let vote (i : ChanIdx) : Bool × Nat :=
       match s.channel? i with
       | some e => if e.node = k then forwardVote s.sessionOpen e s.port.decimation[i] else (false, s.port.decimation[i])
       | none => (false, s.port.decimation[i])
     let forwarded : Prop := ∃ i : ChanIdx, (vote i).1 = true
     let offer (i : ChanIdx) (z : ZeroTrack) (y : Sample) : ZeroTrack :=
       if s.sessionOpen = true then z
       else if s.unusable i ≠ none ∨ y.raw = 0x7FFF#16 ∨ y.raw = 0x8000#16 then { z with count := 0, sum := 0 }
       else if y.gap then { z with count := 1, sum := y.raw.toInt }
       else { z with count := z.count + 1, sum := z.sum + y.raw.toInt }
     (s.sessionOpen = false → stored = true → ∀ (i : ChanIdx) (z : ZeroTrack), s.load.zero[i] = some z → z.count ≤ 248) →
     ∃ t, exec (.samples dt frame) s = .next t ∧
       t = { u with
         node.nodes := s.node.nodes.set k { s.node.nodes[k] with lastFrame := some u.clock }
         node.pollWanted := s.node.pollWanted || srq
         rings := t.rings, load.zero := t.load.zero
         port.decimation := t.port.decimation, port.forwardQ := t.port.forwardQ
         port.forwardsDropped := t.port.forwardsDropped } ∧
       (stored = false → t.rings = s.rings ∧ t.load.zero = s.load.zero) ∧
       (∀ i : ChanIdx, (∀ e, s.channel? i = some e → e.node ≠ k ∨ chs.length ≤ e.channel) →
         t.rings[i] = s.rings[i] ∧ t.load.zero[i] = s.load.zero[i]) ∧
       (∀ (i : ChanIdx) (e : Channel) (l : List Half), stored = true → s.channel? i = some e → e.node = k →
         chs[e.channel]? = some l → (∀ j f, s.channel? j = some f → f.node = k → f.channel = e.channel → j = i) →
         (t.rings[i], t.load.zero[i]) = l.zipIdx.foldl (fun a x =>
           match ringSample a.1 (first + micros (250 * x.2)) x.1 with
           | some y => (ringPush a.1 y, a.2.map fun z => offer i z y)
           | none => a) (s.rings[i], s.load.zero[i])) ∧
       (∀ i : ChanIdx, t.port.decimation[i] = (vote i).2) ∧
       (¬ forwarded → t.port.forwardQ = s.port.forwardQ ∧ t.port.forwardsDropped = s.port.forwardsDropped) ∧
       (forwarded → s.port.forwardQ.length < 32 → t.port.forwardQ = s.port.forwardQ ++ [.forward k frame] ∧
         t.port.forwardsDropped = s.port.forwardsDropped) ∧
       (forwarded → 32 ≤ s.port.forwardQ.length → t.port.forwardQ = s.port.forwardQ ∧
         t.port.forwardsDropped = min (s.port.forwardsDropped + 1) 65535)) ∧
  (∀ (s : State) (dt : Time) (frame : List Byte) (k : NodeAddr) (srq : Bool) (first : Time) (chs : List (List Half)),
     parseUp frame = some ⟨k, srq, .samples first chs⟩ →
     let u := s.advance dt
     let e := s.node.nodes[k]
     (e.status = .silent → exec (.samples dt frame) s = exec (.samples dt frame) { s with
       node.nodes := s.node.nodes.set k { e with status := .online, owed := true }
       node.ready := s.node.ready ++ (if s.session.power = .standby then [.halt (some k)] else [])
       session :=
         if e.type = some .thermal ∧ s.session.thermalSeen = false then
           if s.session.settleState = .waiting then { s.session with
             thermalSeen := true, settleState := .settling
             settle := some ⟨u.clock, seconds (s.constant (·.settle) 8)⟩ }
           else { s.session with thermalSeen := true }
         else s.session }) ∧
     (e.status = .absent → exec (.samples dt frame) s = .next { u with
       node.nodes := s.node.nodes.set k { e with identPending := true, lastFrame := some u.clock }
       node.pollWanted := s.node.pollWanted || srq })) ∧
  (∀ (e : Channel) (n : Nat) (isOpen : Bool),
     (e.forward = .never → forwardVote isOpen e n = (false, n)) ∧
     (e.forward = .session → forwardVote isOpen e n = (isOpen, n)) ∧
     (e.forward = .always → forwardVote isOpen e n = (true, n)) ∧
     (e.forward = .decimate → isOpen = false → forwardVote isOpen e n = (false, n)) ∧
     (e.forward = .decimate → isOpen = true → n + 1 < e.decimation → forwardVote isOpen e n = (false, n + 1)) ∧
     (e.forward = .decimate → isOpen = true → n + 1 = e.decimation → forwardVote isOpen e n = (true, 0)))

/-! ## Chapters 5 and 6: load and bearing measurement -/

/-- The end of a block: the tracked offset moves an eighth of the way to the block's mean, clamped to 512 counts around
the loaded offset, the DRIFT mark says whether the clamp changed it, N4 is raised when it is set newly, and the
accumulator empties (R101). -/
def Obligations.AutozeroBlockEnds : Prop :=
  ∀ (s : State) (dt : Time) (i : ChanIdx) (z : ZeroTrack) (e : Channel),
    s.load.zero[i] = some z → s.channel? i = some e → 256 ≤ z.count →
    let u := s.advance dt
    let goal : Int := z.offset + roundDiv (roundDiv z.sum 256 - z.offset) 8
    let engaged : Bool := decide (goal < e.offset - 512 ∨ e.offset + 512 < goal)
    let t : State := { u with load.zero := s.load.zero.set i (some
      { offset := clamp (e.offset - 512) (e.offset + 512) goal, drift := engaged, count := 0, sum := 0 }) }
    exec (.autozeroBlockEnd dt i) s =
      .next (if engaged = true ∧ z.drift = false then t.raise .n4 (.node s.session.seq e.node) else t)

/-- What the parts hold at their beginning: the axle's data; the first axle-level absence that applies, with no bay or
scanner then; otherwise the configured bays in order, or the configured scanners, each with its windows from the axle's two
crossing times, and read at once where its ring has reached its window (R84, R85, R88, R89, R105, R109, R110). The reads of the
parts in flight: a waiting bay or scanner whose ring's newest time is not older than its window's end less 250 microseconds
is read, with the usability and DRIFT mark of the moment; 8000 microseconds after the part's start everything still waiting
is read as its ring stands (R82, R86, R111). -/
def Obligations.PartsAreRead : Prop :=
  let answer (s : State) (i : ChanIdx) (a b : Time) : ReadAnswer :=
    { unusable := s.unusable i, drift := (s.load.zero[i]).any (·.drift), window := readWindow s.rings[i] a b }
  let arrived (s : State) (i : ChanIdx) (b : Time) : Bool := (s.rings[i]).getLast?.any fun n => !older n.time (b - 250)
  let number (rail : Rail) : Nat := match rail with | .r1 => 1 | .r2 => 2
  (∀ (s : State) (sc : SiteConstants) (a : AxleData),
    let reaches (d : Nat) : Time := a.tE + micros (d * a.dt.toNat / sc.lab)
    let l := s.newLoadPart sc a
    let b := s.newBearingPart sc a
    l.axle = a ∧ b.axle = a ∧
    (a.stopFlag = true → l.whole = some .stopInZone ∧ b.whole = some .stopInZone) ∧
    (a.stopFlag = false → a.headDisagree = true → l.whole = some .headDisagree ∧ b.whole = some .headDisagree) ∧
    (∀ v m, a.stopFlag = false → a.headDisagree = false → a.speed = .present v m →
      l.whole = (if v < sc.minSpeed ∨ sc.maxSpeed < v then some .speedRange else none) ∧
      b.whole = (if v < 50 then some .speedRange else none)) ∧
    (l.whole ≠ none → l.bays = []) ∧ (b.whole ≠ none → b.scanners = []) ∧
    (l.whole = none →
      l.bays.Pairwise (fun x y => (x.rail = .r1 ∧ y.rail = .r2) ∨ (x.rail = y.rail ∧ x.bay < y.bay)) ∧
      (∀ y ∈ l.bays, ∃ e x, s.channel? y.index = some e ∧ e.kind = .load ∧ e.rail = number y.rail ∧ e.bay = y.bay.val + 1 ∧
        (sc.bayStart.get y.rail)[y.bay] = some x ∧
        y.start = reaches (match a.dir with | .forward => x | .reverse => sc.lab - x - sc.bayLength) ∧
        y.stop = reaches (match a.dir with | .forward => x + sc.bayLength | .reverse => sc.lab - x) ∧
        y.coreStart = y.start + micros ((y.stop - y.start).toNat * (100 - sc.core) / 200) ∧
        y.coreStop = y.stop - micros ((y.stop - y.start).toNat * (100 - sc.core) / 200) ∧
        y.read = if arrived s y.index y.stop then some (answer s y.index y.start y.stop) else none) ∧
      (∀ (rail : Rail) (bay : BayNo) (i : ChanIdx) (e : Channel) (x : Nat), s.channel? i = some e → e.kind = .load →
        e.rail = number rail → e.bay = bay.val + 1 → (sc.bayStart.get rail)[bay] = some x →
        ∃ y ∈ l.bays, y.rail = rail ∧ y.bay = bay)) ∧
    (b.whole = none →
      b.scanners.Pairwise (fun x y => x.rail = .r1 ∧ y.rail = .r2) ∧
      (∀ y ∈ b.scanners, ∃ e x, s.channel? y.index = some e ∧ e.kind = .bearing ∧ e.rail = number y.rail ∧
        sc.scanner.get y.rail = some x ∧
        y.start = reaches ((match a.dir with | .forward => x | .reverse => sc.lab - x) - sc.halfWindow) ∧
        y.stop = reaches ((match a.dir with | .forward => x | .reverse => sc.lab - x) + sc.halfWindow) ∧
        y.read = if arrived s y.index y.stop then some (answer s y.index y.start y.stop) else none) ∧
      (∀ (rail : Rail) (i : ChanIdx) (e : Channel) (x : Nat), s.channel? i = some e → e.kind = .bearing →
        e.rail = number rail → sc.scanner.get rail = some x → ∃ y ∈ b.scanners, y.rail = rail))) ∧
  (∀ (s : State) (dt : Time) (k : Nat),
    let u := s.advance dt
    let readBay (b : LoadBay) : LoadBay := { b with read := some (answer u b.index b.start b.stop) }
    let readScanner (c : Scanner) : Scanner := { c with read := some (answer u c.index c.start c.stop) }
    let loads (f : LoadPart → LoadBay → LoadBay) : State := { u with
      load.parts := s.load.parts.map fun p => if p.axle.ordinal = k then { p with bays := p.bays.map (f p) } else p }
    let bearings (f : BearingPart → Scanner → Scanner) : State := { u with
      thermal.parts := s.thermal.parts.map fun p =>
        if p.axle.ordinal = k then { p with scanners := p.scanners.map (f p) } else p }
    (∀ (rail : Rail) (bay : BayNo), exec (.bayRead dt k rail bay) s = .next (loads fun _ b =>
      if b.rail = rail ∧ b.bay = bay ∧ b.read = none ∧ arrived u b.index b.stop = true then readBay b else b)) ∧
    (exec (.loadReadLimit dt k) s = .next (loads fun p b =>
      if b.read = none ∧ reached u.clock (p.axle.start + 8000) = true then readBay b else b)) ∧
    (∀ rail : Rail, exec (.scannerRead dt k rail) s = .next (bearings fun _ c =>
      if c.rail = rail ∧ c.read = none ∧ arrived u c.index c.stop = true then readScanner c else c)) ∧
    (exec (.bearingReadLimit dt k) s = .next (bearings fun p c =>
      if c.read = none ∧ reached u.clock (p.axle.start + 8000) = true then readScanner c else c)))

/-- A part all of whose reads are made completes: the part goes, its results are written into the axle record, S2 for
each critical rail and S3 (load) or S1 for each critical rail (bearing) are raised with the axle as source, and after the
second part the axle is DONE, one fewer is in flight, its AXLE RESULT is offered and its vehicle is judged if it can be.
Bearing results are NOT_SETTLED unless the part has settled (R54, R97, R98, R114, R115). That completion is a row of its
own is the model's choice (log entry 4). -/
def Obligations.PartsComplete : Prop :=
  ∀ (s : State) (dt : Time) (k : Nat) (sc : SiteConstants), s.site = some sc →
    let u := s.advance dt
    let src : Source := .axle s.session.seq k
    let critical (t : State) (q : Quantity) (limit : Nat) (kind : AlertKind) : State :=
      if q.atLeast limit then t.raise kind src else t
    let finish (t : State) (other : Bool) : State :=
      let t1 : State := { t.updRecord k fun r => { r with status := .done } with axles.inFlight := t.axles.inFlight - 1 }
      if other then t
      else match t1.record? k with
        | none => t1
        | some r => match r.vehicle with
          | none => t1.offerResult (.axleResult s.session.seq r)
          | some v => (t1.offerResult (.axleResult s.session.seq r)).judgeIfReady v
    (∀ p, s.loadPart? k = some p → (∀ b ∈ p.bays, b.read ≠ none) →
      let l := u.loadResults p
      let q := axleLoadOf l.r1.static l.r2.static
      let t0 : State := { u with load.parts := s.load.parts.filter fun x => decide (x.axle.ordinal ≠ k) }
      exec (.loadPartComplete dt k) s = .next (finish (critical (critical (critical
        (t0.updRecord k fun r => { r with load := l, axleLoad := q })
        l.r1.increment sc.impactCritical .s2) l.r2.increment sc.impactCritical .s2) q sc.axleLoadCritical .s3)
        (s.bearingPart? k).isSome)) ∧
    (∀ p, s.bearingPart? k = some p → (∀ c ∈ p.scanners, c.read ≠ none) →
      let gone : BearingResult := { peak := .absent .notSettled, rise := .absent .notSettled }
      let b : PerRail BearingResult := if s.session.settleState = .settled then u.bearingResults p else ⟨gone, gone⟩
      let t0 : State := { u with thermal.parts := s.thermal.parts.filter fun x => decide (x.axle.ordinal ≠ k) }
      exec (.bearingPartComplete dt k) s = .next (finish (critical (critical
        (t0.updRecord k fun r => { r with bearing := b, sideDiff := sideDifference b.r1.rise b.r2.rise })
        b.r1.rise sc.bearingCritical .s1) b.r2.rise sc.bearingCritical .s1)
        (s.loadPart? k).isSome))

/-- What present results are: a static load in 0..13000 from its bay count, a peak in -1000..13000, an increment that is the
excess of peak over static load, a ratio in 100..26000 only on a static load of at least 50, an axle load that is the sum of
the static loads, a rise that is the excess of the bearing peak over the ambient reference, and a side difference of the two
rises (R91 to R95, R106, R112, R113). When each is present and which absence it carries otherwise: the axle-level absence of
the part; a bay outcome by the first line of Table 5.4 and from the bays' outcomes the static load; the peak over the usable
bays that are not STALE and hold 8 samples; increment and ratio by static load and peak; a bearing peak by the first line of
Table 6.3, and its rise (R85, R90, R92 to R95, R109, R112, R113). That a rail with no configured scanner takes the
axle-level reason of R109 where one applies, and not R105's NO_CHANNEL, is the model's choice (log entry 39). -/
def Obligations.PresentResultsAreSound : Prop :=
  (∀ (s : State) (p : LoadPart) (rail : Rail),
    let l := (s.loadResults p).get rail
    (∀ v m, l.static = .present v m → 0 ≤ v ∧ v ≤ 13000 ∧ 1 ≤ l.bayCount ∧ (m.fewBays = true ↔ l.bayCount = 1)) ∧
    (∀ v m, l.peak = .present v m → -1000 ≤ v ∧ v ≤ 13000) ∧
    (∀ v m, l.increment = .present v m → 0 ≤ v ∧ v ≤ 13000 ∧
      ∃ st pk ms mp, l.static = .present st ms ∧ l.peak = .present pk mp ∧ v = max 0 (pk - st)) ∧
    (∀ v m, l.ratio = .present v m → 100 ≤ v ∧ v ≤ 26000 ∧
      ∃ st pk ms mp, l.static = .present st ms ∧ l.peak = .present pk mp ∧ 50 ≤ st ∧ v = pk * 100 / st)) ∧
  (∀ (x y v : Int) (mx my m : Marks), axleLoadOf (.present x mx) (.present y my) = .present v m → v = x + y) ∧
  (∀ (s : State) (p : BearingPart) (rail : Rail),
    let b := (s.bearingResults p).get rail
    (∀ v m, b.peak = .present v m → -600 ≤ v ∧ v ≤ 3000) ∧
    (∀ v m, b.rise = .present v m → 0 ≤ v ∧ v ≤ 3000 ∧
      ∃ pk a, b.peak = .present pk m ∧ s.thermal.ambient.value = some a ∧ v = clamp 0 3000 (pk - a)) ∧
    (∀ v m, b.peak = .present v m → s.thermal.ambient.value = none → b.rise = .absent .noAmbient)) ∧
  (∀ (x y v : Int) (mx my m : Marks), sideDifference (.present x mx) (.present y my) = .present v m → v = |x - y|) ∧
  (∀ (s : State) (p : LoadPart) (rail : Rail),
    let l := (s.loadResults p).get rail
    let bays := p.bays.filter fun b => decide (b.rail = rail)
    let clipped (x : Sample) : Bool := decide (x.raw = 0x7FFF#16 ∨ x.raw = 0x8000#16)
    let force (b : LoadBay) (x : Sample) : Int :=
      clamp (-1000) 13000 (roundDiv ((x.raw.toInt - s.offsetOf b.index) * s.gainOf b.index) 4096)
    let outcome (b : LoadBay) (a : ReadAnswer) : Except Absence Int :=
      match a.unusable, a.window with
      | some _, _ => .error .noChannel
      | none, .stale => .error .stale
      | none, .samples w _ =>
        let core := w.filter fun x => !older x.time b.coreStart && older x.time b.coreStop
        if core.any clipped then .error .clipped
        else if core.length < 8 then .error .short
        else .ok (clamp 0 13000 (roundDiv (core.map (force b)).sum core.length))
    let means := bays.filterMap fun b => b.read.bind fun a => (outcome b a).toOption
    let usable (b : LoadBay) : Bool := b.read.any fun a => decide (a.unusable = none)
    let peaks := bays.flatMap fun b => match b.read with
      | some ⟨none, _, .samples w _⟩ => if 8 ≤ w.length then w.map (force b) else []
      | _ => []
    (∀ r, p.whole = some r →
      l.static = .absent r ∧ l.bayCount = 0 ∧ l.peak = .absent r ∧ l.increment = .absent r ∧ l.ratio = .absent r) ∧
    (p.whole = none → (∀ b ∈ p.bays, b.read ≠ none) →
      l.bayCount = means.length ∧
      (means ≠ [] → ∃ m, l.static = .present (roundDiv means.sum means.length) m) ∧
      (peaks ≠ [] → ∃ v m, l.peak = .present v m ∧ v ∈ peaks ∧ ∀ x ∈ peaks, x ≤ v) ∧
      (bays.find? usable = none → l.static = .absent .noChannel ∧ l.peak = .absent .noChannel) ∧
      (∀ b a, bays.find? usable = some b → b.read = some a →
        (∀ r, means = [] → outcome b a = .error r → l.static = .absent r) ∧
        (peaks = [] → l.peak = .absent (if a.window = .stale then .stale else .short)))) ∧
    (∀ r, l.static = .absent r → l.increment = .absent r ∧ l.ratio = .absent r) ∧
    (∀ v m r, l.static = .present v m → l.peak = .absent r → l.increment = .absent r ∧ l.ratio = .absent r) ∧
    (∀ v m x n, l.static = .present v m → l.peak = .present x n →
      (∃ f, l.increment = .present (max 0 (x - v)) f) ∧ (v < 50 → l.ratio = .absent .short) ∧
      (50 ≤ v → ∃ f, l.ratio = .present (x * 100 / v) f))) ∧
  (∀ (x : Int) (m : Marks) (q : Quantity) (r : Absence), axleLoadOf (.absent r) q = .absent r ∧
    axleLoadOf (.present x m) (.absent r) = .absent r ∧ sideDifference (.absent r) q = .absent r ∧
    sideDifference (.present x m) (.absent r) = .absent r ∧
    ∀ y n, (∃ f, axleLoadOf (.present x m) (.present y n) = .present (x + y) f) ∧
      ∃ f, sideDifference (.present x m) (.present y n) = .present |x - y| f) ∧
  (∀ (s : State) (p : BearingPart) (rail : Rail),
    let b := (s.bearingResults p).get rail
    let scanner := p.scanners.find? fun c => decide (c.rail = rail)
    (∀ r, p.whole = some r → b.peak = .absent r ∧ b.rise = .absent r) ∧
    (p.whole = none → scanner = none → b.peak = .absent .noChannel) ∧
    (∀ c a, p.whole = none → scanner = some c → c.read = some a →
      (a.unusable ≠ none → b.peak = .absent .noChannel) ∧
      (a.unusable = none → a.window = .stale → b.peak = .absent .stale) ∧
      (∀ w n, a.unusable = none → a.window = .samples w n →
        (w.length < 3 → b.peak = .absent .short) ∧
        (∀ e, 3 ≤ w.length → s.channel? c.index = some e →
          let temps := w.map fun x => clamp (-600) 3000 (roundDiv ((x.raw.toInt - e.offset) * e.gain) 4096)
          ∃ v m, b.peak = .present v m ∧ v ∈ temps ∧ ∀ x ∈ temps, x ≤ v))) ∧
    (∀ r, b.peak = .absent r → b.rise = .absent r) ∧
    (∀ v m a, b.peak = .present v m → s.thermal.ambient.value = some a → b.rise = .present (clamp 0 3000 (v - a)) m))

/-! ## Chapter 7: vehicles -/

/-- A segmentation run serves one notice in an open session: it forms vehicles of 1 to 8 axles one after another, moving the
cursor by just their axles, until the decision at the cursor is WAIT or the cursor stands above the last record; the records
keep their number (R123, R125 to R127). A run, the end-of-train run too, is a chain of formations, and nothing else: each
forms the vehicle that the decision at the cursor gives, with its class, pattern, count and set and the cursor as its first
axle; gives its axle records the vehicle index; moves the cursor past them; raises T6 for an unclassified vehicle, with the
vehicle as source, and puts T6 first in its verdict list; and judges the vehicle at once when all its axles are DONE (R125
to R129). What a judgement does is in AxleTestsRaise. R123 has the runs from ARMED through CLEARING; that a notice still
waiting is served in CLOSING too, before step 2, is the model's reading (log entry 17). -/
def Obligations.SegmentationRuns : Prop :=
  (∀ (s : State) (dt : Time), s.sessionOpen = true → s.group.notices ≠ 0 →
    s.group.vehicles.map (·.index) = List.range' 1 s.group.vehicles.length →
    (∀ (j : Fin 64) (p : Pattern), s.tables.active.patterns[j] = .valid p → 1 ≤ p.n ∧ p.n ≤ 8) →
    ∃ t, exec (.segmentationRun dt) s = .next t ∧
      t = ({ s.advance dt with group.notices := s.group.notices - 1 } : State).runSegmentation false ∧
      t.group.notices = s.group.notices - 1 ∧
      (t.axles.records.length < t.group.cursor ∨ t.decideVehicle false = .wait) ∧
      t.axles.records.map (·.ordinal) = s.axles.records.map (·.ordinal) ∧
      t.group.vehicles.map (·.index) = List.range' 1 t.group.vehicles.length ∧
      ∃ counts : List Nat, t.group.vehicles.map (·.count) = s.group.vehicles.map (·.count) ++ counts ∧
        (∀ n ∈ counts, 1 ≤ n ∧ n ≤ 8) ∧ t.group.cursor = s.group.cursor + counts.sum) ∧
  (∀ (s : State) (final : Bool), s.group.vehicles.map (·.index) = List.range' 1 s.group.vehicles.length →
    let formed (x : State) (cls pattern : Option Nat) (count set : Nat) : State :=
      let v : Vehicle := { index := x.group.vehicles.length + 1, cls, pattern, first := x.group.cursor, count, set
                           atClose := final, verdicts := if cls = none then [.t6] else [] }
      let y : State := { x with
        group.vehicles := x.group.vehicles ++ [v]
        group.cursor := x.group.cursor + count
        axles.records := x.axles.records.map fun r =>
          if v.first ≤ r.ordinal ∧ r.ordinal < v.first + count then { r with vehicle := some v.index } else r }
      let z : State := if cls = none then y.raise .t6 (.vehicle x.session.seq v.index) else y
      if ∀ r ∈ x.axles.records, v.first ≤ r.ordinal → r.ordinal < v.first + count → r.status = .done then z.judge v else z
    Relation.ReflTransGen
      (fun x y => x.group.cursor ≤ x.axles.records.length ∧ ∃ cls pattern count set,
        x.decideVehicle final = .form cls pattern count set ∧ y = formed x cls pattern count set)
      s (s.runSegmentation final))

/-- The pattern test: MATCH exactly when every inner spacing is present within the tolerance of its nominal value and
the coupling spacing is present and at least the minimum gap; otherwise the first spacing that does not fit decides, NO for
an absent or a present one, WAIT for an unknown one or an axle with no record (R124). The first entry in index order that
does not answer NO decides (R125); when all answer NO, an unclassified vehicle runs to the axle before the first spacing at
or above the unclassified gap, to 8 axles at most, or waits (R126). Under the end-of-train rule no decision is WAIT, an axle
with no record ends the last vehicle, and a run ends above the last record (R128). -/
def Obligations.PatternTestMatches : Prop :=
  (∀ (s : State) (c : Nat) (p : Pattern), s.testPattern false c p = .hit ↔
    (∀ i : Fin p.spacings.length, ∃ v, s.spacingView (c + 1 + i.val) = .known v ∧
      (v - (p.spacings[i] : Int)).natAbs ≤ p.tolerance) ∧
    ∃ v, s.spacingView (c + 1 + p.spacings.length) = .known v ∧ (p.gap : Int) ≤ v) ∧
  (∀ (s : State) (c : Nat) (p : Pattern), s.testPattern true c p ≠ .wait) ∧
  (∀ s : State, s.decideVehicle true ≠ .wait) ∧
  (∀ s : State, (∀ (j : Fin 64) (p : Pattern), s.tables.active.patterns[j] = .valid p → 1 ≤ p.n) →
    (s.runSegmentation true).axles.records.length < (s.runSegmentation true).group.cursor) ∧
  (∀ (s : State) (c : Nat) (p : Pattern),
    let view (i : Nat) : SpacingView := s.spacingView (c + 1 + i)
    let n := p.spacings.length
    let fits (i : Fin n) : Prop := ∃ v, view i = .known v ∧ (v - (p.spacings[i] : Int)).natAbs ≤ p.tolerance
    let wide (i : Fin n) : Prop := ∃ v, view i = .known v ∧ p.tolerance < (v - (p.spacings[i] : Int)).natAbs
    let pending (i : Nat) : Prop := view i = .noRecord ∨ view i = .unknown
    (s.testPattern false c p = .no ↔
      (∃ i : Fin n, (∀ j, j < i → fits j) ∧ (view i = .absent ∨ wide i)) ∨
      ((∀ j, fits j) ∧ (view n = .absent ∨ ∃ v, view n = .known v ∧ v < (p.gap : Int)))) ∧
    (s.testPattern false c p = .wait ↔
      (∃ i : Fin n, (∀ j, j < i → fits j) ∧ pending i) ∨ ((∀ j, fits j) ∧ pending n)) ∧
    (s.testPattern true c p = .hit ↔
      (∀ j, fits j) ∧ (view n = .noRecord ∨ ∃ v, view n = .known v ∧ (p.gap : Int) ≤ v))) ∧
  (∀ (s : State) (final : Bool) (j : Fin 64) (p : Pattern), s.tables.active.patterns[j] = .valid p →
    (∀ (i : Fin 64) (q : Pattern), i < j → s.tables.active.patterns[i] = .valid q →
      s.testPattern final s.group.cursor q = .no) →
    (s.testPattern final s.group.cursor p = .hit →
      s.decideVehicle final = .form (some p.cls) (some j.val) p.n p.set) ∧
    (s.testPattern final s.group.cursor p = .wait → s.decideVehicle final = .wait)) ∧
  (∀ (s : State) (final : Bool) (sc : SiteConstants) (n : Nat), s.site = some sc →
    (∀ (j : Fin 64) (p : Pattern), s.tables.active.patterns[j] = .valid p →
      s.testPattern final s.group.cursor p = .no) →
    let view (i : Nat) : SpacingView := s.spacingView (s.group.cursor + i + 1)
    let joined (i : Nat) : Prop :=
      view i = .absent ∨ (final = true ∧ view i = .unknown) ∨ ∃ v, view i = .known v ∧ v < (sc.unclassifiedGap : Int)
    let last (i : Nat) : Prop :=
      (final = true ∧ view i = .noRecord) ∨ ∃ v, view i = .known v ∧ (sc.unclassifiedGap : Int) ≤ v
    n ≤ 7 → (∀ i, i < n → joined i) →
    (n = 7 → s.decideVehicle final = .form none none 8 0) ∧
    (n < 7 → last n → s.decideVehicle final = .form none none (n + 1) 0) ∧
    (n < 7 → ¬ joined n → ¬ last n → s.decideVehicle final = .wait))

/-- Which kinds the tests of an axle raise: S5 when a rail's increment reaches the impact alarm of the axle's own speed
band or its ratio the ratio alarm; S6 when the axle load or the imbalance reaches its alarm; S4 when a rise or the side
difference does; no other kind (R120, R131 to R133); in the order S5, S5, S6, S4, S4, S4 (R130). A judgement makes the raises
of every axle against a valid threshold set and none without one, and completes the vehicle record: JUDGED, the total load
with its count, UNJUDGED, PARTIAL for an untested quantity, the verdict list with the critical kinds first and then the kinds
raised, each once, and its VEHICLE RESULT (R130, R134, R169). The outlier test of a rail with fewer than 8 rises marks the
session record; with 8 or more, S7 is raised for each axle whose rise reaches the train mean plus the margin of its set, and
joins its alert list and its vehicle's verdict list (R116). -/
def Obligations.AxleTestsRaise : Prop :=
  (∀ (th : Threshold) (bands : SpeedBands) (r : AxleRecord),
    (.s5 ∈ axleRaises th bands r ↔ ∃ rail : Rail,
      (∃ sp msp v m, r.speed = .present sp msp ∧ (r.load.get rail).increment = .present v m ∧
        ((th.impact[(if sp < bands.b1 then 0 else if sp < bands.b2 then 1 else if sp < bands.b3 then 2 else 3 : Fin 4)] : Int)
          ≤ v)) ∨
      (∃ v m, (r.load.get rail).ratio = .present v m ∧ (th.ratio : Int) ≤ v)) ∧
    (.s6 ∈ axleRaises th bands r ↔
      (∃ v m, r.axleLoad = .present v m ∧ (th.axleLoad : Int) ≤ v) ∨
      (∃ x y mx my, r.load.r1.static = .present x mx ∧ r.load.r2.static = .present y my ∧ 0 < x + y ∧
        (th.imbalance : Int) ≤ |x - y| * 100 / (x + y))) ∧
    (.s4 ∈ axleRaises th bands r ↔
      (∃ (rail : Rail) (v : Int) (m : Marks), (r.bearing.get rail).rise = .present v m ∧ (th.rise : Int) ≤ v) ∨
      (∃ v m, r.sideDiff = .present v m ∧ (th.difference : Int) ≤ v)) ∧
    (∀ k ∈ axleRaises th bands r, k = .s5 ∨ k = .s6 ∨ k = .s4) ∧
    (axleRaises th bands r).Sublist [.s5, .s5, .s6, .s4, .s4, .s4]) ∧
  (∀ (s : State) (v : Vehicle), s.vehicle? v.index = some v → v.verdicts.Nodup →
    (∀ k : AlertKind, (s.alertEntry k).count ≤ 65535) →
    let t := s.judge v
    let axles := s.axles.records.filter fun r => decide (v.first ≤ r.ordinal ∧ r.ordinal < v.first + v.count)
    let loads := axles.filterMap fun r => match r.axleLoad with | .present x _ => some x | _ => none
    let critical := [AlertKind.s1, .s2, .s3].filter fun k => axles.any fun r => r.alerts.contains k
    let raises := match s.threshold? v.set with
      | some th => axles.flatMap (axleRaises th s.tables.active.bands)
      | none => []
    let untested (r : AxleRecord) : Prop := ∃ q ∈ [r.load.r1.increment, r.load.r1.ratio, r.load.r2.increment,
      r.load.r2.ratio, r.axleLoad, r.load.r1.static, r.load.r2.static, r.bearing.r1.rise, r.bearing.r2.rise, r.sideDiff],
      ∀ x m, q ≠ .present x m
    ∃ v', t.vehicle? v.index = some v' ∧
      v' = { v with judged := true, total := some (loads.sum, loads.length), unjudged := (s.threshold? v.set).isNone
                    isPartial := v'.isPartial, verdicts := (v.verdicts ++ critical ++ raises).eraseDups } ∧
      (v'.isPartial = true ↔ s.threshold? v.set ≠ none ∧ ∃ r ∈ axles, untested r) ∧
      (∀ j, j ≠ v.index → t.vehicle? j = s.vehicle? j) ∧
      (∀ k : AlertKind, (t.alertEntry k).count = min ((s.alertEntry k).count + raises.count k) 65535) ∧
      (∀ sc, s.site = some sc → sc.liveResults = true → s.port.resultQ.length < 64 →
        t.port.resultQ = s.port.resultQ ++ [.vehicleResult s.session.seq v'])) ∧
  (∀ (s : State) (rail : Rail),
    let rises := s.axles.records.filterMap fun r => match (r.bearing.get rail).rise with | .present x _ => some x | _ => none
    let t := s.outlierRail rail
    (rises.length < 8 →
      t = { s with session.record.outlierNotTested := s.session.record.outlierNotTested.set rail true }) ∧
    (8 ≤ rises.length → s.AxleTableSound → s.axles.tableSeq = s.session.seq → (s.alertEntry .s7).count ≤ 65535 →
      let outlier (r : AxleRecord) : Prop := ∃ x m th, (r.bearing.get rail).rise = .present x m ∧
        s.threshold? ((r.vehicle.bind s.vehicle?).elim 0 (·.set)) = some th ∧
        roundDiv rises.sum rises.length + th.outlierMargin ≤ x
      t.session = s.session ∧
      (∀ ks : List Nat, ks.Nodup → (∀ k, k ∈ ks ↔ ∃ r, s.record? k = some r ∧ outlier r) →
        (t.alertEntry .s7).count = min ((s.alertEntry .s7).count + ks.length) 65535) ∧
      (∀ j : AlertKind, j ≠ .s7 → t.alertEntry j = s.alertEntry j) ∧
      (∀ k r, s.record? k = some r →
        (outlier r ∧ .s7 ∉ r.alerts → t.record? k = some { r with alerts := r.alerts ++ [.s7] }) ∧
        (¬ outlier r ∨ .s7 ∈ r.alerts → t.record? k = some r)) ∧
      (∀ i v, s.vehicle? i = some v →
        ((∃ k r, s.record? k = some r ∧ outlier r ∧ r.vehicle = some i) ∧ .s7 ∉ v.verdicts →
          t.vehicle? i = some { v with verdicts := v.verdicts ++ [.s7] }) ∧
        ((∀ k r, s.record? k = some r → outlier r → r.vehicle ≠ some i) ∨ .s7 ∈ v.verdicts →
          t.vehicle? i = some v))))

/-! ## Chapter 8: alerts and gates -/

/-- A raise: its kind's entry is counted, keeps its first source while pending, takes the last source and becomes
pending; a frame is offered when an enabled kind was not pending; the train raise count rises while a session is open;
the axle alert list of a named record takes the kind once; and nothing else changes (R138). -/
def Obligations.RaiseIsTaken : Prop :=
  ∀ (s : State) (k : AlertKind) (src : Source),
    let e := s.alertEntry k
    let t := s.raise k src
    t.alertEntry k = { pending := true, enabled := e.enabled, count := min (e.count + 1) 65535
                       first := if e.pending then e.first else some src, last := some src } ∧
    (∀ j, j ≠ k → t.alertEntry j = s.alertEntry j) ∧
    (e.enabled = true → e.pending = false → s.port.alertQ.length < 16 →
      t.port.alertQ = s.port.alertQ ++ [.alert k (min (e.count + 1) 65535) src] ∧
      t.alert.framesNotQueued = s.alert.framesNotQueued) ∧
    (e.enabled = true → e.pending = false → 16 ≤ s.port.alertQ.length →
      t.port.alertQ = s.port.alertQ ∧ t.alert.framesNotQueued = min (s.alert.framesNotQueued + 1) 65535) ∧
    (e.enabled = false ∨ e.pending = true →
      t.port.alertQ = s.port.alertQ ∧ t.alert.framesNotQueued = s.alert.framesNotQueued) ∧
    (∀ j : AlertKind, t.alert.trainRaises[j.idx] =
      if j = k ∧ s.sessionOpen = true then min (s.alert.trainRaises[j.idx] + 1) 65535 else s.alert.trainRaises[j.idx]) ∧
    (∀ n, src = .axle s.axles.tableSeq n → t.axles.records = s.axles.records.map fun r =>
      if r.ordinal = n then { r with alerts := if k ∈ r.alerts then r.alerts else r.alerts ++ [k] } else r) ∧
    ((∀ n, src ≠ .axle s.axles.tableSeq n) → t.axles.records = s.axles.records) ∧
    t = { s with alert := t.alert, port.alertQ := t.port.alertQ, axles.records := t.axles.records }

/-- CLEAR ALERT clears the entry of a known code, or every entry for FFh, keeps the enables and answers OK, and refuses
any other code; SET ALERT ENABLE writes the 21 enables from the mask, and refuses a mask with a higher bit; TOP ALERT
answers the first kind in priority order that is pending and enabled, or NONE. Nothing else changes (R141 to R143). The free
index of the RANGE replies (log entry 11) and the presence byte that opens TOP ALERT's results (log entry 13) are the model's
readings. -/
def Obligations.AlertCommandsAnswer : Prop :=
  ∀ (s : State) (dt : Time) (tag : Byte) (rest : List Command), s.replyRoom = true →
    let u := s.advance dt
    (∀ b, s.port.commands = ⟨tag, [0x0C, b]⟩ :: rest →
      (∀ k : AlertKind, b.toNat = k.code → exec (.clearAlert dt) s = .next (({ u with
        alert.entries := s.alert.entries.set k.idx ⟨false, (s.alertEntry k).enabled, 0, none, none⟩ } : State).replied rest
          ⟨tag, 0x0C, .ok, []⟩)) ∧
      (b = 0xFF → ∃ t, exec (.clearAlert dt) s = .next t ∧
        t = { u.replied rest ⟨tag, 0x0C, .ok, []⟩ with alert.entries := t.alert.entries } ∧
        ∀ k : AlertKind, t.alertEntry k = ⟨false, (s.alertEntry k).enabled, 0, none, none⟩) ∧
      (b ≠ 0xFF → (∀ k : AlertKind, b.toNat ≠ k.code) → ∃ i : Half, exec (.clearAlert dt) s = .next
        { u.replied rest ⟨tag, 0x0C, .range, leHalf i⟩ with freeCount := s.freeCount + 1 })) ∧
    (∀ b0 b1 b2 b3, s.port.commands = ⟨tag, [0x0D, b0, b1, b2, b3]⟩ :: rest →
      let mask := b0.toNat + 256 * b1.toNat + 65536 * b2.toNat + 16777216 * b3.toNat
      (mask < 2 ^ 21 → ∃ t, exec (.setAlertEnable dt) s = .next t ∧
        t = { u.replied rest ⟨tag, 0x0D, .ok, []⟩ with alert.entries := t.alert.entries } ∧
        ∀ k : AlertKind, t.alertEntry k = { s.alertEntry k with enabled := mask.testBit k.idx.val }) ∧
      (2 ^ 21 ≤ mask → ∃ i : Half, exec (.setAlertEnable dt) s = .next
        { u.replied rest ⟨tag, 0x0D, .range, leHalf i⟩ with freeCount := s.freeCount + 1 })) ∧
    (s.port.commands = ⟨tag, [0x0B]⟩ :: rest →
      (∀ k : AlertKind, (s.alertEntry k).pending = true → (s.alertEntry k).enabled = true →
        (∀ j : AlertKind, j.idx < k.idx → (s.alertEntry j).pending = false ∨ (s.alertEntry j).enabled = false) →
        exec (.topAlert dt) s = .next (u.replied rest ⟨tag, 0x0B, .ok,
          [1, BitVec.ofNat 8 k.code] ++ le2 (s.alertEntry k).count ++ sourceBytes (s.alertEntry k).first ++
            sourceBytes (s.alertEntry k).last⟩)) ∧
      ((∀ k : AlertKind, (s.alertEntry k).pending = false ∨ (s.alertEntry k).enabled = false) →
        exec (.topAlert dt) s = .next (u.replied rest ⟨tag, 0x0B, .ok, [0]⟩)))

/-- While G2's action is ACTIVE_HIGH or ACTIVE_LOW, G2 is at its active level exactly when at least one of S1, S2 or S3
is pending, enabled or not (R148). The other gates by their actions (R145): the condition of G0 holds in ARMED, IN_TRAIN,
STOPPED and CLEARING (R146), of G1 while a camera pulse is in output (R150), of G3 by its source (R147); a forced line keeps
its level, and every line is low until Site Constants is first activated (R145). The ALERT line is high exactly while a kind
is pending and enabled (R144). -/
def Obligations.TrainStopRequest : Prop :=
  (∀ (s : State) (sc : SiteConstants), s.site = some sc →
    (sc.gates[(2 : Fin 4)] = .activeHigh → (s.gateLine 2 = true ↔
      (s.alertEntry .s1).pending = true ∨ (s.alertEntry .s2).pending = true ∨ (s.alertEntry .s3).pending = true)) ∧
    (sc.gates[(2 : Fin 4)] = .activeLow → (s.gateLine 2 = false ↔
      (s.alertEntry .s1).pending = true ∨ (s.alertEntry .s2).pending = true ∨ (s.alertEntry .s3).pending = true))) ∧
  (∀ (s : State) (sc : SiteConstants), s.site = some sc →
    let follows (g : Fin 4) (condition : Prop) : Prop :=
      (sc.gates[g] = .activeHigh → (s.gateLine g = true ↔ condition)) ∧
      (sc.gates[g] = .activeLow → (s.gateLine g = false ↔ condition))
    follows 0 (s.session.state ∈ [SessionState.armed, .inTrain, .stopped, .clearing]) ∧
    follows 1 (∃ p, s.gate.pulse = some p) ∧
    (sc.g3 = .none → follows 3 False) ∧
    (sc.g3 = .sessionOpen → follows 3 (s.session.state ∈ [SessionState.armed, .inTrain, .stopped, .clearing, .closing])) ∧
    (sc.g3 = .anySPending →
      follows 3 (∃ k : AlertKind, k ∈ [AlertKind.s1, .s2, .s3, .s4, .s5, .s6, .s7] ∧ (s.alertEntry k).pending = true)) ∧
    (sc.g3 = .exitPulse → follows 3 (∃ since, s.gate.exitPulse = some since)) ∧
    (∀ g : Fin 4, (sc.gates[g] = .forcedHigh → s.gateLine g = true) ∧ (sc.gates[g] = .forcedLow → s.gateLine g = false))) ∧
  (∀ s : State, s.site = none → ∀ g : Fin 4, s.gateLine g = false) ∧
  (∀ s : State, s.alertLine = true ↔
    ∃ k : AlertKind, (s.alertEntry k).pending = true ∧ (s.alertEntry k).enabled = true)

/-- The camera trigger: the fire time of an entry is its crossing time plus the camera distance by its coil interval over
the coil spacing; with no camera nothing is placed (R149). A pulse meeting a full queue is MISSED, one that is due at an idle
line starts at once, any other is inserted in fire-time order (R149). A waiting pulse starts when it is due and the line is
free, FIRED at its fire time and LATE after it; it ends when its width has run (R150). The EXIT_PULSE condition ends 1000
microseconds after the last request (R147). -/
def Obligations.GatePulsesRun : Prop :=
  ∀ (s : State),
    let outcome (t : State) (p : CameraPulse) (o : CameraOutcome) : State :=
      if p.seq = s.axles.tableSeq then t.updRecord p.ordinal fun r => { r with camera := some o } else t
    (∀ (k : Nat) (c : Crossing) (sc : SiteConstants) (dir : Direction), s.site = some sc →
      s.session.record.direction = some dir →
      (sc.camera = none → s.scheduleCamera k c = s) ∧
      (∀ x, sc.camera = some x → s.scheduleCamera k c = s.placePulse
        { fire := c.time + BitVec.ofNat 32 ((if dir = .forward then x else sc.lab - x) * c.interval.toNat / sc.coilSpacing)
          ordinal := k, seq := s.session.seq })) ∧
    (∀ p : CameraPulse, 4 ≤ s.gate.queue.length → s.placePulse p = outcome s p .missed) ∧
    (∀ (p : CameraPulse) (sc : SiteConstants), reached s.clock p.fire = true → s.gate.pulse = none → s.gate.queue = [] →
      s.site = some sc → s.placePulse p = outcome { s with gate.pulse := some ⟨s.clock, sc.cameraWidth⟩ } p
        (if s.clock = p.fire then .fired else .late)) ∧
    (∀ (p : CameraPulse) (q1 q2 : List CameraPulse), s.gate.queue = q1 ++ q2 → s.gate.queue.length < 4 →
      reached s.clock p.fire = false ∨ s.gate.pulse ≠ none ∨ s.gate.queue ≠ [] →
      (∀ x ∈ q1, older p.fire x.fire = false) → (∀ x, q2.head? = some x → older p.fire x.fire = true) →
      s.placePulse p = { s with gate.queue := q1 ++ p :: q2 }) ∧
    (∀ (dt : Time) (p : CameraPulse) (q : List CameraPulse) (sc : SiteConstants), s.gate.queue = p :: q →
      s.gate.pulse = none → s.site = some sc → reached (s.clock + dt) p.fire = true →
      let u := s.advance dt
      exec (.cameraPulseStart dt) s = .next (outcome { u with
        gate.queue := q, gate.pulse := some ⟨u.clock, sc.cameraWidth⟩ } p (if u.clock = p.fire then .fired else .late))) ∧
    (∀ (dt : Time) (p : PulseOut), s.gate.pulse = some p →
      exec (.cameraPulseEnd dt) s = .next (if reached (s.clock + dt) (p.start + micros p.width) then
        { s.advance dt with gate.pulse := none } else s.advance dt)) ∧
    (∀ (dt : Time) (t : Time), s.gate.exitPulse = some t →
      exec (.exitPulseEnd dt) s = .next (if reached (s.clock + dt) (t + 1000) then
        { s.advance dt with gate.exitPulse := none } else s.advance dt))

/-! ## Chapter 9: reports -/

/-- With no measurement in flight the close operation goes on, in this order: the end-of-train run; the judgement, in
ascending index, of every vehicle still FORMED; the outlier test of rail 1 and of rail 2; unequal counts raise T1 with the
train as source and set COUNT_MISMATCH; the chosen slot is marked as being written, and the copy holds the header of that
state, the axle records and the vehicle records (R33, R116, R128, R129, R153 to R155). So a rail with fewer than 8 rises is
marked OUTLIER_NOT_TESTED, and the Alert Table's T1 takes one raise exactly where the counts differ. What a run, a judgement
and an outlier test do is in SegmentationRuns and AxleTestsRaise. The chosen slot is the lowest-numbered EMPTY one, else the
oldest RELEASED one not in readout, else the oldest HELD one not in readout (R155). That no notice outlives the end-of-train
run (log entry 17) and that header and records are copied together at the start of step 5 (log entry 18) are the model's
readings, and so is it that T1 is raised after COUNT_MISMATCH is set (log entry 24). -/
def Obligations.CloseMeasurementsDone : Prop :=
  (∀ (s : State) (dt : Time) (i : Fin 4), s.session.state = .closing → s.report.copy = none →
     (∀ r ∈ s.axles.records, r.status ≠ .inFlight) → s.report.choose = some i →
     s.group.vehicles.map (·.index) = List.range' 1 s.group.vehicles.length →
     let run := ({ s.advance dt with group.notices := 0 } : State).runSegmentation true
     let judged := (run.group.vehicles.map (·.index)).foldl (fun x j => match x.vehicle? j with
       | some v => if v.judged then x else x.judge v
       | none => x) run
     let tested := (judged.outlierRail .r1).outlierRail .r2
     let counted : State := if s.entryCount = s.exitCount then tested
       else ({ tested with session.record.countMismatch := true } : State).raise .t1 (.train s.session.seq)
     let header : ReportHeader :=
       { record := counted.session.record, siteId := s.site.elim 0 (·.siteId), truncated := s.axles.truncated
         entryCount := s.entryCount, exitCount := s.exitCount, highWater := s.axles.highWater, mismatch := s.axles.mismatch
         axleCount := s.axles.records.length, vehicleCount := counted.group.vehicles.length, ambient := s.thermal.ambient
         summary := counted.alert.trainRaises }
     ∃ t, exec (.closeMeasurementsDone dt) s = .next t ∧
       t = { counted with
         report.slots := s.report.slots.set i { s.report.slots[i] with writing := true }
         report.copy := some (i, ⟨header, counted.axles.records, counted.group.vehicles⟩) } ∧
       (∀ e, e = s.alertEntry .t1 →
         (s.entryCount ≠ s.exitCount → t.alertEntry .t1 =
           { e with pending := true, count := min (e.count + 1) 65535, last := some (.train s.session.seq)
                    first := if e.pending then e.first else some (.train s.session.seq) }) ∧
         (s.entryCount = s.exitCount → t.alertEntry .t1 = e)) ∧
       (∀ rail : Rail, t.session.record.outlierNotTested.get rail = (s.session.record.outlierNotTested.get rail ||
         decide ((s.axles.records.filterMap fun r => match (r.bearing.get rail).rise with
           | .present x _ => some x
           | _ => none).length < 8))) ∧
       (∀ v ∈ t.group.vehicles, v.judged = true) ∧
       t.session.record.countMismatch = (s.session.record.countMismatch || decide (s.entryCount ≠ s.exitCount)) ∧
       t.report = { s.report with
         slots := s.report.slots.set i { s.report.slots[i] with writing := true }
         copy := some (i, ⟨t.formHeader, t.axles.records, t.group.vehicles⟩) } ∧
       t.formHeader.entryCount = s.entryCount ∧ t.formHeader.exitCount = s.exitCount ∧
       t.formHeader.summary = t.alert.trainRaises ∧ t.formHeader.record = t.session.record ∧
       t.group.notices = 0 ∧ t.session.state = .closing ∧ t.clock = s.clock + dt ∧ t.tables = s.tables) ∧
  (∀ (r : ReportUnit) (i : Fin 4),
     let free (st : SlotState) (j : Fin 4) : Prop := (r.slots[j]).state = st ∧ ∀ e, r.engine = some e → e.slot ≠ j
     ((r.slots[i]).state = .empty → (∀ j : Fin 4, j < i → (r.slots[j]).state ≠ .empty) → r.choose = some i) ∧
     (∀ l1 l2, r.order = l1 ++ i :: l2 → (∀ j : Fin 4, (r.slots[j]).state ≠ .empty) →
       (free .released i → (∀ j ∈ l1, ¬ free .released j) → r.choose = some i) ∧
       (free .held i → (∀ j ∈ l1, ¬ free .held j) → (∀ j ∈ r.order, ¬ free .released j) → r.choose = some i)))

/-- The copy is complete: the new report is HELD in its slot as the newest, a HELD report it replaces is lost, counted and
raises T7 with that report's train as source, the closed trains count rises; TRAIN END is offered; pending entries are
applied to the active bank and gone; and the part goes to IDLE, or opens the next session in ARMED for a remembered approach
or in IN_TRAIN with NO_APPROACH for held crossings, and applies the held crossings to it in the order they arrived, each as
the row CROSSING applies one that R13 lets it apply, which every held crossing is (R13, R33, R36, R37, R156, R169, R172).
What applying the pending entries does is in TablesAndQueriesAnswer, an opening in SessionOpens and a crossing in
CrossingChangesItsCount. TRAIN END carries the train sequence number, which the session record carries in every state that a
run reaches (SessionLawsKept). A camera outcome written during the copy is in the report or not (R154; log entry 18). -/
def Obligations.ReportCopyCompletes : Prop :=
  ∀ (s : State) (dt : Time) (i : Fin 4) (rep : Report),
    s.session.state = .closing → s.report.copy = some (i, rep) →
    let u := s.advance dt
    let lost : State := match (s.report.slots[i]).state, (s.report.slots[i]).report with
      | .held, some old =>
        ({ u with report.lost := min (s.report.lost + 1) 65535 } : State).raise .t7 (.train old.header.record.seq)
      | _, _ => u
    let frame : OutFrame := .trainEnd s.session.record.seq s.session.record.closure s.entryCount s.exitCount
      s.axles.records.length s.group.vehicles.length i
    let offered (y : State) : State := match s.site with
      | none => y
      | some sc =>
        if sc.liveResults = false then y
        else if s.port.resultQ.length < 64 then { y with port.resultQ := s.port.resultQ ++ [frame] }
        else { y with port.resultsSkipped := min (s.port.resultsSkipped + 1) 65535 }
    let crossed (y : State) (x : Crossing) : State :=
      match exec (.crossing 0 x.head) (y.setHead x.head { y.head x.head with
          emitted := { x with unsited := false } :: (y.head x.head).emitted }) with
      | .next z => z
      | .fault _ => y
      | .refused _ => y
    ∃ t r, exec (.reportCopyComplete dt) s = .next t ∧
      (let applied := (offered { lost with
         freeCount := s.freeCount + 1025
         report := { lost.report with
           slots := s.report.slots.set i { state := .held, report := some r, writing := false }
           order := s.report.order.filter (· ≠ i) ++ [i]
           closed := min (s.report.closed + 1) 65535, copy := none } }).applyPending
       let closed : State := { applied with session.held := [] }
       t = if s.session.rememberedApproach then s.session.held.foldl crossed (closed.openSession .armed false)
         else if s.session.held ≠ [] then s.session.held.foldl crossed (closed.openSession .inTrain true)
         else { closed with session := { closed.session with
           state := .idle, idle := some ⟨u.clock, seconds (applied.constant (·.idle) 300)⟩
           arm := none, standstill := none, clear := none, abandon := none } }) ∧
      t.tables = s.applyPending.tables ∧
      (∀ e, e = s.alertEntry .t7 →
        (∀ old, (s.report.slots[i]).state = .held → (s.report.slots[i]).report = some old → t.alertEntry .t7 =
          { e with pending := true, count := min (e.count + 1) 65535, last := some (.train old.header.record.seq)
                   first := if e.pending then e.first else some (.train old.header.record.seq) }) ∧
        ((s.report.slots[i]).state ≠ .held ∨ (s.report.slots[i]).report = none → t.alertEntry .t7 = e)) ∧
      (∀ x l, s.session.held = x :: l → t.session.entryHead = some x.head ∧
        t.session.record.firstCrossing = some x.time ∧
        t.session.record.lastCrossing = ((x :: l).getLast?).map (·.time) ∧
        t.session.record.direction = some (match x.head with | .a => Direction.forward | .b => .reverse) ∧
        t.session.record.noApproach = !s.session.rememberedApproach) ∧
      List.Forall₂ (fun now old => now = old ∨ ∃ a, s.record? old.ordinal = some a ∧ now = { old with camera := a.camera })
        r.axles rep.axles ∧
      t.report.slots = s.report.slots.set i { state := .held, report := some r, writing := false } ∧
      r.header = rep.header ∧ r.vehicles = rep.vehicles ∧
      r.axles.map (fun x => { x with camera := none }) = rep.axles.map (fun x => { x with camera := none }) ∧
      t.report.order = s.report.order.filter (· ≠ i) ++ [i] ∧
      t.report.closed = min (s.report.closed + 1) 65535 ∧ t.report.releases = s.report.releases ∧
      t.report.lost = (if (s.report.slots[i]).state = .held ∧ (s.report.slots[i]).report ≠ none then
        min (s.report.lost + 1) 65535 else s.report.lost) ∧
      t.report.copy = none ∧ t.report.engine = s.report.engine ∧ t.tables.pending = {} ∧
      t.session.state = (if s.session.held ≠ [] then .inTrain else if s.session.rememberedApproach then .armed else .idle) ∧
      t.session.held = [] ∧
      t.session.seq = (if s.session.held = [] ∧ s.session.rememberedApproach = false then s.session.seq
        else s.session.seq + 1) ∧
      (∀ sc, s.site = some sc → sc.liveResults = true → s.port.resultQ.length < 64 → s.session.held = [] →
        s.session.record.seq = s.session.seq →
        t.port.resultQ = s.port.resultQ ++ [.trainEnd s.session.seq s.session.record.closure s.entryCount s.exitCount
          s.axles.records.length s.group.vehicles.length i])

/-- READ REPORT that passes its checks starts the engine, with the granted count cut to the section's end; a slot above 3, a
section above 2, a count of 0 or above 1024 and, in a slot that can be read, a first index of 0 or above the section's
records are RANGE; a running engine or a slot being written refuses it BUSY, an EMPTY slot EMPTY, in the order of Table 9.3
(R158). The engine places the next frame of up to 8 records while the REPORT class has room, and the frame that leaves
nothing ends the readout COMPLETE (R159). ABORT READOUT ends it ABORTED, READ REPORT's reply first (R160). REPORT DIRECTORY
answers the view of the store: of each slot its state, whether it is being written, the sequence number, closure and record
counts of the report in it, none when it is EMPTY or being written, its age rank and whether it is in readout; then the
three counts (R157). The widths and presence bytes of the results are the model's reading of R177 (log entry 13), and the
index of a RANGE reply its choice (log entry 11). -/
def Obligations.ReportsAreRead : Prop :=
  ∀ (s : State) (dt : Time) (tag : Byte) (rest : List Command),
    let u := s.advance dt
    let counts (e : Readout) (d : Nat) : List Byte := le2 e.granted ++ le2 d ++ le2 (e.granted - d)
    (∀ (i : Fin 4) (part : Section) (f0 f1 c0 c1 : Byte), s.replyRoom = true →
      s.port.commands = ⟨tag, [0x0F, BitVec.ofNat 8 i.val, BitVec.ofNat 8 part.code, f0, f1, c0, c1]⟩ :: rest →
      let first := f0.toNat + 256 * f1.toNat
      let count := c0.toNat + 256 * c1.toNat
      1 ≤ count → count ≤ 1024 →
      ((s.report.engine ≠ none ∨ (s.report.slots[i]).writing = true) →
        exec (.readReport dt) s = .next (u.replied rest ⟨tag, 0x0F, .busy, []⟩)) ∧
      (s.report.engine = none → (s.report.slots[i]).writing = false →
        ((s.report.slots[i]).state = .empty →
          exec (.readReport dt) s = .next (u.replied rest ⟨tag, 0x0F, .empty, []⟩)) ∧
        (∀ rep, (s.report.slots[i]).state ≠ .empty → (s.report.slots[i]).report = some rep → 1 ≤ first →
          first ≤ (rep.records part).length → exec (.readReport dt) s = .next { u with
            port.commands := rest
            report.engine := some { slot := i, part := part, tag := tag, next := first
                                    granted := min count ((rep.records part).length - first + 1)
                                    delivered := 0, foreign := s.port.reportQ.length, left := 0 } }) ∧
        (∀ rep, (s.report.slots[i]).state ≠ .empty → (s.report.slots[i]).report = some rep →
          first = 0 ∨ (rep.records part).length < first →
          exec (.readReport dt) s = .next (u.replied rest ⟨tag, 0x0F, .range, [2, 0]⟩)))) ∧
    (∀ slot part f0 f1 c0 c1 : Byte, s.replyRoom = true →
      s.port.commands = ⟨tag, [0x0F, slot, part, f0, f1, c0, c1]⟩ :: rest →
      let count := c0.toNat + 256 * c1.toNat
      (3 < slot.toNat → exec (.readReport dt) s = .next (u.replied rest ⟨tag, 0x0F, .range, [0, 0]⟩)) ∧
      (slot.toNat ≤ 3 → 2 < part.toNat → exec (.readReport dt) s = .next (u.replied rest ⟨tag, 0x0F, .range, [1, 0]⟩)) ∧
      (slot.toNat ≤ 3 → part.toNat ≤ 2 → count = 0 ∨ 1024 < count →
        exec (.readReport dt) s = .next (u.replied rest ⟨tag, 0x0F, .range, [3, 0]⟩))) ∧
    (∀ (e : Readout) (rep : Report), s.report.engine = some e → (s.report.slots[e.slot]).report = some rep →
      let n := min 8 (e.granted - e.delivered)
      let q := s.port.reportQ ++
        [.reportData e.slot e.part rep.header.record.seq e.next (((rep.records e.part).drop (e.next - 1)).take n)]
      (8 ≤ s.port.reportQ.length → exec (.reportData dt) s = .next u) ∧
      (s.port.reportQ.length < 8 → e.delivered + n < e.granted → exec (.reportData dt) s = .next { u with
        port.reportQ := q
        report.engine := some { e with next := e.next + n, delivered := e.delivered + n } }) ∧
      (s.port.reportQ.length < 8 → e.granted ≤ e.delivered + n → exec (.reportData dt) s = .next
        (({ u with port.reportQ := q, report.engine := none } : State).offerReply
          ⟨e.tag, 0x0F, .ok, [0] ++ counts e (e.delivered + n)⟩))) ∧
    (s.port.commands = ⟨tag, [0x10]⟩ :: rest → s.replyRoom = true →
      (s.report.engine = none → exec (.abortReadout dt) s = .next (u.replied rest ⟨tag, 0x10, .ok, [1]⟩)) ∧
      (∀ e, s.report.engine = some e → exec (.abortReadout dt) s = .next
        ((({ u with report.engine := none } : State).replied rest ⟨e.tag, 0x0F, .ok, [1] ++ counts e e.delivered⟩).offerReply
          ⟨tag, 0x10, .ok, [0] ++ counts e e.delivered⟩))) ∧
    (s.port.commands = ⟨tag, [0x0E]⟩ :: rest → s.replyRoom = true →
      let number (n : Nat) : List Byte := [BitVec.ofNat 8 n, BitVec.ofNat 8 (n / 256)]
      let flag (b : Bool) : List Byte := [if b then 1 else 0]
      let item (o : Option (List Byte)) : List Byte := match o with
        | none => [0]
        | some l => 1 :: l
      let slot (i : Fin 4) : List Byte :=
        let x := s.report.slots[i]
        let p := if x.state = .empty ∨ x.writing = true then none else x.report
        (match x.state with | .empty => [0] | .held => [1] | .released => [2]) ++ flag x.writing ++
        item (p.map fun p => number p.header.record.seq.toNat) ++
        item ((p.bind (·.header.record.closure)).map fun c => match c with
          | .normal => [0] | .withdrawn => [1] | .abandoned => [2] | .forced => [3]) ++
        item (p.map fun p => number p.header.axleCount) ++ item (p.map fun p => number p.header.vehicleCount) ++
        item (if i ∈ s.report.order then some (number (s.report.order.idxOf i + 1)) else none) ++
        flag (s.report.engine.any fun e => decide (e.slot = i))
      exec (.reportDirectory dt) s = .next (u.replied rest ⟨tag, 0x0E, .ok, slot 0 ++ slot 1 ++ slot 2 ++ slot 3 ++
        number s.report.closed ++ number s.report.releases ++ number s.report.lost⟩))

/-- RELEASE REPORT by the first line that applies: RANGE outside 0 to 3, BUSY while the slot is being written,
IN_READOUT while it is in readout, EMPTY for an EMPTY slot, OK with the state RELEASED and one more release for a HELD
one, and OK with no effect for a RELEASED one (R161). The index the RANGE reply carries is a free value (log entries 9 and
11). -/
def Obligations.ReleaseReportAnswers : Prop :=
  ∀ (s : State) (dt : Time) (tag b : Byte) (rest : List Command),
    s.port.commands = ⟨tag, [0x11, b]⟩ :: rest → s.replyRoom = true →
    let u := s.advance dt
    (4 ≤ b.toNat → ∃ i : Half, exec (.releaseReport dt) s = .next
      { u.replied rest ⟨tag, 0x11, .range, leHalf i⟩ with freeCount := s.freeCount + 1 }) ∧
    (∀ i : Fin 4, b.toNat = i.val →
      ((s.report.slots[i]).writing = true →
        exec (.releaseReport dt) s = .next (u.replied rest ⟨tag, 0x11, .busy, []⟩)) ∧
      ((s.report.slots[i]).writing = false →
        (∀ e, s.report.engine = some e → e.slot = i →
          exec (.releaseReport dt) s = .next (u.replied rest ⟨tag, 0x11, .inReadout, []⟩)) ∧
        ((∀ e, s.report.engine = some e → e.slot ≠ i) →
          ((s.report.slots[i]).state = .empty →
            exec (.releaseReport dt) s = .next (u.replied rest ⟨tag, 0x11, .empty, []⟩)) ∧
          ((s.report.slots[i]).state = .held → exec (.releaseReport dt) s = .next (({ u with
            report.slots := s.report.slots.set i { s.report.slots[i] with state := .released }
            report.releases := min (s.report.releases + 1) 65535 } : State).replied rest ⟨tag, 0x11, .ok, []⟩)) ∧
          ((s.report.slots[i]).state = .released →
            exec (.releaseReport dt) s = .next (u.replied rest ⟨tag, 0x11, .ok, []⟩)))))

/-! ## Chapters 10 and 11: the station port -/

/-- A frame laid out and summed as the spec says is received as what was sent (R177, Table 11.1). The vehicle record's 24
bytes by their offsets (R179, Table 11.10); its flags PARTIAL and UNJUDGED are held and sent as clear while unformed (log
entry 32). -/
def Obligations.StationFramesRoundTrip : Prop :=
  (∀ (kind tag : Byte) (payload : List Byte), payload.length ≤ 1024 →
    parseStation (withCrc ([kind, tag] ++ le2 payload.length ++ payload)) = some ⟨kind, tag, payload⟩) ∧
  (∀ v : Vehicle,
    let field (o n : Nat) : List Byte := (v.bytes.drop o).take n
    let number (w : Nat) (x : Nat) : List Byte := (List.range w).map fun i => BitVec.ofNat 8 (x / 256 ^ i)
    let flag (b : Bool) (x : Nat) : Nat := if b then x else 0
    v.bytes.length = 24 ∧ field 0 4 = number 2 v.index ++ number 2 v.first ∧
    field 4 4 = [BitVec.ofNat 8 (v.cls.getD 0), BitVec.ofNat 8 (v.pattern.getD 255), BitVec.ofNat 8 v.count,
      BitVec.ofNat 8 v.set] ∧
    field 8 2 = [if v.judged then 1 else 0, BitVec.ofNat 8 (flag v.atClose 1 + flag v.isPartial 2 + flag v.unjudged 4 +
      flag v.total.isSome 8)] ∧
    (v.total = none → field 10 2 = [0, BitVec.ofNat 8 v.verdicts.length] ∧ field 12 4 = [0, 0, 0, 0]) ∧
    (∀ load n, v.total = some (load, n) → 0 ≤ load →
      field 10 2 = [BitVec.ofNat 8 n, BitVec.ofNat 8 v.verdicts.length] ∧ field 12 4 = number 4 load.toNat) ∧
    (v.verdicts.length ≤ 8 → field 16 8 =
      (v.verdicts.map fun k => BitVec.ofNat 8 k.code) ++ List.replicate (8 - v.verdicts.length) 0))

/-- A received COMMAND is queued while fewer than 4 wait, answered QUEUE_FULL while the REPLY class has room, and
dropped otherwise (R164); any other frame is discarded and counted, each 16th with N6 (R163). A command of no known code
is answered UNKNOWN_COMMAND with its code (R165); an empty one with a free code (log entry 10). A command of a fixed argument
length that arrives with another length is answered BAD_LENGTH (R165, Table 11.3). While the REPLY class has no room the
dispatcher takes no command (R165, R166). -/
def Obligations.CommandsArrive : Prop :=
  ∀ (s : State) (dt : Time),
    let u := s.advance dt
    (∀ (frame : List Byte) (tag code : Byte) (args : List Byte), parseStation frame = some ⟨0x01, tag, code :: args⟩ →
      (s.port.commands.length < 4 → exec (.stationFrameReceive dt frame) s = .next
        { u with port.commands := s.port.commands ++ [⟨tag, code :: args⟩] }) ∧
      (4 ≤ s.port.commands.length → s.replyRoom = true → exec (.stationFrameReceive dt frame) s = .next
        (u.replied s.port.commands ⟨tag, code, .queueFull, []⟩)) ∧
      (4 ≤ s.port.commands.length → s.replyRoom = false → exec (.stationFrameReceive dt frame) s = .next
        { u with port.commandsDropped := min (s.port.commandsDropped + 1) 65535 })) ∧
    (∀ frame : List Byte, (∀ f, parseStation frame = some f → f.kind ≠ 0x01) →
      let t := { u with port.crcDiscards := min (s.port.crcDiscards + 1) 65535 }
      exec (.stationFrameReceive dt frame) s =
        .next (if s.port.crcDiscards < 65535 ∧ (s.port.crcDiscards + 1) % 16 = 0 then State.raise t .n6 .empty else t)) ∧
    (∀ (tag code : Byte) (args : List Byte) (rest : List Command), s.port.commands = ⟨tag, code :: args⟩ :: rest →
      s.replyRoom = true → code.toNat = 0 ∨ 0x11 < code.toNat →
      exec (.unknownCommand dt) s = .next (u.replied rest ⟨tag, code, .unknownCommand, []⟩)) ∧
    (∀ (tag : Byte) (rest : List Command), s.port.commands = ⟨tag, []⟩ :: rest → s.replyRoom = true →
      ∃ code : Byte, exec (.unknownCommand dt) s = .next
        { u.replied rest ⟨tag, code, .unknownCommand, []⟩ with freeCount := s.freeCount + 1 }) ∧
    (∀ (c : Instr) (code : Byte) (n : Nat) (tag : Byte) (args : List Byte) (rest : List Command),
      (c, code, n) ∈ ([(.readTable dt, 0x02, 4), (.describe dt, 0x03, 2), (.readStatus dt, 0x04, 0), (.siteReset dt, 0x05, 0),
        (.standby dt, 0x06, 0), (.wake dt, 0x07, 0), (.closeTrain dt, 0x08, 0), (.readAxle dt, 0x09, 2),
        (.topAlert dt, 0x0B, 0), (.clearAlert dt, 0x0C, 1), (.setAlertEnable dt, 0x0D, 4), (.reportDirectory dt, 0x0E, 0),
        (.readReport dt, 0x0F, 6), (.abortReadout dt, 0x10, 0), (.releaseReport dt, 0x11, 1)] : List (Instr × Byte × Nat)) →
      s.port.commands = ⟨tag, code :: args⟩ :: rest → args.length ≠ n → s.replyRoom = true →
      exec c s = .next (u.replied rest ⟨tag, code, .badLength, []⟩)) ∧
    (∀ c : Instr, c ∈ [.loadTable dt, .readTable dt, .describe dt, .readStatus dt, .siteReset dt, .standby dt, .wake dt,
        .closeTrain dt, .readAxle dt, .nodeTransaction dt, .topAlert dt, .clearAlert dt, .setAlertEnable dt,
        .reportDirectory dt, .readReport dt, .abortReadout dt, .releaseReport dt, .unknownCommand dt] →
      s.replyRoom = false → exec c s = .next u)

/-- The line takes the oldest frame of the highest class that holds one: ALERT, REPLY, REPORT, RESULT, FORWARD; with none it
is free (R167). That this row is the end of the frame on the line, so that the line is taken whatever frame stands on it and
is freed where nothing waits, is the model's choice (log entry 14). A frame that leaves the REPORT class while a readout
runs is a frame of an earlier readout as long as one is there, and then one of the readout, whose records have left for good
(R162). That earlier frames are told by their number is the model's way (log entry 5). A held reply is placed when the REPLY
class has room, the one held longest first (R166). -/
def Obligations.OutboundLineServes : Prop :=
  ∀ (s : State) (dt : Time) (f : OutFrame) (l : List OutFrame),
    let u := s.advance dt
    (s.port.alertQ = f :: l → exec (.transmitArbiter dt) s = .next
      { u with port.alertQ := l, port.line := some f }) ∧
    (s.port.alertQ = [] →
      (s.port.replyQ = f :: l → exec (.transmitArbiter dt) s = .next
        { u with port.replyQ := l, port.line := some f }) ∧
      (s.port.replyQ = [] →
        (s.port.reportQ = f :: l → s.report.engine = none → exec (.transmitArbiter dt) s = .next
          { u with port.reportQ := l, port.line := some f }) ∧
        (∀ e, s.port.reportQ = f :: l → s.report.engine = some e →
          (e.foreign ≠ 0 → exec (.transmitArbiter dt) s = .next { u with
            port.reportQ := l, port.line := some f, report.engine := some { e with foreign := e.foreign - 1 } }) ∧
          (∀ slot part seq first records, e.foreign = 0 → f = .reportData slot part seq first records →
            exec (.transmitArbiter dt) s = .next { u with
              port.reportQ := l, port.line := some f, report.engine := some { e with left := e.left + records.length } })) ∧
        (s.port.reportQ = [] →
          (s.port.resultQ = f :: l → exec (.transmitArbiter dt) s = .next
            { u with port.resultQ := l, port.line := some f }) ∧
          (s.port.resultQ = [] →
            (s.port.forwardQ = f :: l → exec (.transmitArbiter dt) s = .next
              { u with port.forwardQ := l, port.line := some f }) ∧
            (s.port.forwardQ = [] → exec (.transmitArbiter dt) s = .next { u with port.line := none }))))) ∧
    (s.port.heldReplies = f :: l → s.port.replyQ.length < 4 → exec (.heldReply dt) s = .next
      { u with port.replyQ := s.port.replyQ ++ [f], port.heldReplies := l }) ∧
    (s.port.heldReplies = f :: l → 4 ≤ s.port.replyQ.length → exec (.heldReply dt) s = .next u)

/-- LOAD TABLE: a load that fails a check is refused and writes nothing; one that passes is written to the pending bank and
answered PENDING while a session is open, and to the active bank and answered ACTIVE otherwise (R171, R172). A load writes
its entries at their indices and no other; a load of the Speed Bands replaces all three; a load to the active bank removes
the pending entries at its indices. READ TABLE answers the entries of the range from either bank, laid out as Tables 11.7
and 11.8 have them, an index with no pending entry as 0 and a never-loaded active entry with a valid byte of 0 and free
bytes (log entries 12 and 13), and refuses an unknown table or bank, a count of 0, a count above 32 of patterns and a range
beyond the table (R173; the bank, log entry 16; the RANGE index is free, log entry 11). DESCRIBE answers its four leaves and
zeros elsewhere, and READ STATUS the items of R175 in its order, in every state (R174, R175, R177; widths and codes in log
entry 13); that the session record it sends carries COUNT_MISMATCH and OUTLIER_NOT_TESTED after the fields of R32, as step 4
of R33 and Table 9.2 give the record these flags (R33, R153), is the model's reading (log entry 24). Activating Site
Constants moves NOT_READY to IDLE with the idle timer (R21), and the gate lines then take its actions, by TrainStopRequest
(R145); activating a Channel Table index empties its ring, takes its offset afresh and sets its decimation count to 0 (R80,
R99, R168, R172). Step 7 of the close operation does so for each pending entry and for no other index, and leaves none
(R172). -/
def Obligations.TablesAndQueriesAnswer : Prop :=
  (∀ (s : State) (dt : Time) (tag : Byte) (rest : List Command), s.replyRoom = true →
     let u := s.advance dt
     (∀ args, s.port.commands = ⟨tag, 0x01 :: args⟩ :: rest →
       (s.checkLoad args = .badLength → exec (.loadTable dt) s = .next (u.replied rest ⟨tag, 0x01, .badLength, []⟩)) ∧
       (∀ i, s.checkLoad args = .range i →
         exec (.loadTable dt) s = .next (u.replied rest ⟨tag, 0x01, .range, le2 i⟩)) ∧
       (∀ load, s.checkLoad args = .ok load →
         (s.sessionOpen = true →
           exec (.loadTable dt) s = .next ((u.writePending load).replied rest ⟨tag, 0x01, .ok, [1]⟩)) ∧
         (s.sessionOpen = false →
           exec (.loadTable dt) s = .next ((u.writeActive load).replied rest ⟨tag, 0x01, .ok, [0]⟩)))) ∧
     (∀ a0 a1 b0 b1 c0 c1 : Byte,
       let a := a0.toNat + 256 * a1.toNat
       let b := b0.toNat + 256 * b1.toNat
       let c := c0.toNat + 256 * c1.toNat
       s.checkLoad [2, 0, 1, a0, a1, b0, b1, c0, c1] =
         if 10 ≤ a ∧ a < b ∧ b < c ∧ c ≤ 2000 then .ok (.bands ⟨a, b, c⟩) else .range 0) ∧
     (∀ id first n bank : Byte, s.port.commands = ⟨tag, [0x02, id, first, n, bank]⟩ :: rest →
       let b (x : Nat) : List Byte := [BitVec.ofNat 8 x]
       let w (x : Nat) : List Byte := [BitVec.ofNat 8 x, BitVec.ofNat 8 (x / 256)]
       let signed (x : Int) : List Byte := w (BitVec.ofInt 16 x).toNat
       let place (x : Option Nat) : List Byte := w (x.getD 65535)
       let item (o : Option (List Byte)) : List Byte := match o with
         | none => [0]
         | some l => 1 :: l
       let site (c : SiteConstants) : List Byte :=
         w c.siteId ++ w c.lab ++ w c.coilSpacing ++ w c.minPulse ++ b c.standstill ++ b c.clear ++ b c.abandon ++ b c.settle ++
         w c.arm ++ w c.idle ++ w c.bayLength ++ c.bayStart.r1.toList.flatMap place ++ c.bayStart.r2.toList.flatMap place ++
         b c.core ++ b c.halfWindow ++ w c.minSpeed ++ w c.maxSpeed ++ w c.impactCritical ++ w c.axleLoadCritical ++
         place c.scanner.r1 ++ place c.scanner.r2 ++ w c.bearingCritical ++ w c.unclassifiedGap ++
         (c.gates.toList.map fun g : GateAction => match g with
           | .forcedLow => (0 : Byte) | .activeLow => 1 | .activeHigh => 2 | .forcedHigh => 3) ++
         (match c.g3 with | .none => ([0] : List Byte) | .sessionOpen => [1] | .anySPending => [2] | .exitPulse => [3]) ++
         [if c.liveResults then (1 : Byte) else 0] ++ place c.camera ++ w c.cameraWidth
       let channel (e : Channel) : List Byte :=
         [1, BitVec.ofNat 8 (e.node.val + 1)] ++ b e.channel ++
         (match e.kind with | .load => ([0] : List Byte) | .bearing => [1] | .ambient => [2]) ++ b e.rail ++ b e.bay ++
         (match e.forward with | .never => ([0] : List Byte) | .session => [1] | .always => [2] | .decimate => [3]) ++
         b e.decimation ++ signed e.offset ++ w e.gain
       let pattern (p : Pattern) : List Byte :=
         [1] ++ b p.cls ++ b p.n ++ b p.set ++ w p.tolerance ++ w p.gap ++
         (p.spacings.flatMap w ++ List.replicate 14 0).take 14
       let threshold (x : Threshold) : List Byte :=
         [1] ++ b x.imbalance ++ x.impact.toList.flatMap w ++ w x.ratio ++ w x.axleLoad ++ w x.rise ++ w x.difference ++
         w x.outlierMargin
       let range {α : Type} (l : List α) : List α := (l.drop first.toNat).take n.toNat
       let never {α : Type} (e : Entry α) : Bool := match e with
         | .neverLoaded => true
         | .notValid _ | .valid _ => false
       let sent {α : Type} (size : Nat) (f : α → List Byte) (e : Entry α) (l : List Byte) : Prop := match e with
         | .neverLoaded => l.length = size ∧ l.head? = some 0
         | .notValid raw => l = raw
         | .valid x => l = f x
       let answer (results : List Byte) (drawn : Nat) : Prop := exec (.readTable dt) s = .next
         { u.replied rest ⟨tag, 0x02, .ok, results⟩ with freeCount := s.freeCount + drawn }
       let entries {α : Type} (size : Nat) (f : α → List Byte) (active : List (Entry α))
           (pending : List (Option (Entry α))) : Prop :=
         n ≠ 0 → first.toNat + n.toNat ≤ active.length →
           (bank = 0 → ∃ parts : List (List Byte), List.Forall₂ (sent size f) (range active) parts ∧
             answer parts.flatten ((size - 1) * ((range active).filter never).length)) ∧
           (bank = 1 → ∃ parts : List (List Byte), List.Forall₂ (fun e l => match e with
               | none => l = [0]
               | some e => ∃ l', l = 1 :: l' ∧ sent size f e l') (range pending) parts ∧
             answer parts.flatten ((size - 1) * ((range pending).filter fun e => e.any never).length))
       (4 < id.toNat ∨ n = 0 ∨ (id = 3 ∧ 32 < n.toNat) ∨ 1 < bank.toNat ∨
           [1, 24, 1, 64, 16].getD id.toNat 0 < first.toNat + n.toNat →
         ∃ i : Half, exec (.readTable dt) s = .next
           { u.replied rest ⟨tag, 0x02, .range, leHalf i⟩ with freeCount := s.freeCount + 1 }) ∧
       (id = 0 → first = 0 → n = 1 → (bank = 0 → answer (item (s.tables.active.site.map site)) 0) ∧
         (bank = 1 → answer (item (s.tables.pending.site.map site)) 0)) ∧
       (id = 1 → entries 12 channel s.tables.active.channels.toList s.tables.pending.channels.toList) ∧
       (id = 2 → first = 0 → n = 1 →
         let bands (x : SpeedBands) : List Byte := w x.b1 ++ w x.b2 ++ w x.b3
         (bank = 0 → answer (bands s.tables.active.bands) 0) ∧
         (bank = 1 → answer (item (s.tables.pending.bands.map bands)) 0)) ∧
       (id = 3 → n.toNat ≤ 32 →
         entries 22 pattern s.tables.active.patterns.toList s.tables.pending.patterns.toList) ∧
       (id = 4 → entries 20 threshold s.tables.active.thresholds.toList s.tables.pending.thresholds.toList)) ∧
     (∀ leaf sub : Byte, s.port.commands = ⟨tag, [0x03, leaf, sub]⟩ :: rest →
       (leaf = 0 → exec (.describe dt) s = .next (u.replied rest ⟨tag, 0x03, .ok,
         [3, 0, 0x4B, 0x41, 0x56, 0x45, 0x4C, 0x55, 0x4E, 0x44]⟩)) ∧
       (leaf = 1 → exec (.describe dt) s = .next (u.replied rest ⟨tag, 0x03, .ok, [15, 0, 2, 0, 24, 0, 3, 0]⟩)) ∧
       (leaf = 2 → exec (.describe dt) s = .next (u.replied rest ⟨tag, 0x03, .ok,
         [0, 4, 0, 4, 4, 0, 24, 0, 64, 0, 16, 0, 6, 0, 4, 0, 21, 0]⟩)) ∧
       (∀ entries size : Byte, leaf = 3 →
         ([(1, 70), (24, 12), (1, 6), (64, 22), (16, 20)] : List (Byte × Byte))[sub.toNat]? = some (entries, size) →
         exec (.describe dt) s = .next (u.replied rest ⟨tag, 0x03, .ok, [entries, 0, size, 0]⟩)) ∧
       (3 < leaf.toNat ∨ (leaf = 3 ∧ 4 < sub.toNat) →
         exec (.describe dt) s = .next (u.replied rest ⟨tag, 0x03, .ok, [0, 0, 0, 0]⟩))) ∧
     (s.port.commands = ⟨tag, [0x04]⟩ :: rest →
       let count (n : Nat) : List Byte := [BitVec.ofNat 8 n, BitVec.ofNat 8 (n / 256)]
       let time (t : Time) : List Byte := count t.toNat ++ count (t.toNat / 65536)
       let flag (b : Bool) : List Byte := [if b then 1 else 0]
       let item (o : Option (List Byte)) : List Byte := match o with
         | none => [0]
         | some l => 1 :: l
       let state : List Byte := match s.session.state with
         | .notReady => [0] | .standby => [1] | .idle => [2] | .armed => [3] | .inTrain => [4] | .stopped => [5]
         | .clearing => [6] | .closing => [7]
       let direction (d : Direction) : List Byte := match d with | .forward => [0] | .reverse => [1]
       let closure (c : Closure) : List Byte := match c with
         | .normal => [0] | .withdrawn => [1] | .abandoned => [2] | .forced => [3]
       let cause : List Byte := match s.session.wakeCause with
         | .powerOn => [0] | .approach1 => [1] | .approach2 => [2] | .headEdge => [3] | .stationWake => [4]
       let settle : List Byte := match s.session.settleState with | .waiting => [0] | .settling => [1] | .settled => [2]
       let r := s.session.record
       let record : List Byte := count r.seq.toNat ++ item (r.openTime.map time) ++ item (r.direction.map direction) ++
         item (r.firstCrossing.map time) ++ item (r.lastCrossing.map time) ++ item (r.closure.map closure) ++
         item (r.closeStart.map time) ++ flag r.noApproach ++ flag r.incompleteStart ++ flag r.notSettledStart ++
         flag r.countMismatch ++ flag r.outlierNotTested.r1 ++ flag r.outlierNotTested.r2
       let role (x : Role) : List Byte := match x with | .bearing1 => [0] | .bearing2 => [1] | .ambient => [2] | .spare => [3]
       let fault (f : FaultEntry) : List Byte := item (f.channel.map count) ++ match f.kind with
         | .openCircuit => [0] | .overrange => [1] | .shutterStuck => [2] | .heaterFail => [3] | .supplyLow => [4]
       let node (e : NodeEntry) : List Byte :=
         (match e.status with | .absent => [0] | .online => [1] | .silent => [2] | .fault => [3]) ++
         item (e.type.map fun t => match t with | .load => [0] | .thermal => [1]) ++ count e.channelCount ++
         item (if e.type = some .thermal then some (e.roles.flatMap role) else none) ++ item (e.lastFrame.map time) ++
         count e.faults.length ++ e.faults.flatMap fault ++ flag e.identPending
       let channel (i : ChanIdx) : List Byte := flag (decide (s.unusable i = none)) ++
         item ((s.unusable i).map fun x => match x with
           | .notValid => [0] | .nodeAbsent => [1] | .nodeSilent => [2] | .kindMismatch => [3] | .channelFault => [4])
       let zero (z : Option ZeroTrack) : List Byte := item (z.map fun z => count (BitVec.ofInt 16 z.offset).toNat ++ flag z.drift)
       let ambient : List Byte := (match s.thermal.ambient.value with
         | some v => count (BitVec.ofInt 16 v).toNat ++ [0, 0]
         | none => [0, 0, 9, 0]) ++ count s.thermal.ambient.count ++ item (s.thermal.ambient.latched.map time)
       exec (.readStatus dt) s = .next (u.replied rest ⟨tag, 0x04, .ok,
         state ++ [if s.session.power = .active then 0 else 1] ++ count s.session.seq.toNat ++ record ++
         cause ++ time s.session.wakeTime ++ settle ++
         item (s.session.entryHead.map fun h => [if h = .a then 0 else 1]) ++ item (r.direction.map direction) ++
         count s.entryCount ++ count s.exitCount ++ count s.axles.highWater ++ count s.axles.records.length ++
         flag s.axles.truncated ++ count s.axles.mismatch ++ count s.group.vehicles.length ++ count s.group.cursor ++
         flag s.session.apr1.qualified ++ flag s.session.apr2.qualified ++
         s.node.nodes.toList.flatMap node ++ (List.finRange 24).flatMap channel ++ s.load.zero.toList.flatMap zero ++ ambient ++
         count s.port.alertQ.length ++ count s.port.replyQ.length ++ count s.port.reportQ.length ++
         count s.port.resultQ.length ++ count s.port.forwardQ.length ++ count rest.length ++
         count s.session.falseApproaches ++ count s.heads.a.chatter ++ count s.heads.a.faults ++ count s.heads.b.chatter ++
         count s.heads.b.faults ++ count s.node.spurious ++ count s.node.discards ++ count s.port.crcDiscards ++
         count s.port.commandsDropped ++ count s.port.resultsSkipped ++ count s.port.forwardsDropped ++
         count s.alert.framesNotQueued ++ count s.report.lost⟩)) ∧
     (∀ args, args ≠ [] → s.port.commands = ⟨tag, 0x04 :: args⟩ :: rest →
       exec (.readStatus dt) s = .next (u.replied rest ⟨tag, 0x04, .badLength, []⟩))) ∧
  (∀ (s : State) (c : SiteConstants), s.writeActive (.site c) = { s with
     tables.active.site := some c, tables.pending.site := none
     session := if s.session.state = .notReady then
       { s.session with state := .idle, arm := none, standstill := none, clear := none, abandon := none
                        idle := some ⟨s.clock, seconds c.idle⟩ }
       else s.session }) ∧
  (∀ (s : State) (first : Nat) (l : List (Entry Channel)), first + l.length ≤ 24 →
     let t := s.writeActive (.channels first l)
     t = { s with tables.active.channels := t.tables.active.channels, tables.pending.channels := t.tables.pending.channels
                  rings := t.rings, load.zero := t.load.zero, port.decimation := t.port.decimation } ∧
     ∀ i : ChanIdx,
       (∀ e, first ≤ i.val → l[i.val - first]? = some e →
         t.tables.active.channels[i] = e ∧ t.tables.pending.channels[i] = none ∧ t.rings[i] = [] ∧ t.port.decimation[i] = 0 ∧
         t.load.zero[i] = match e with
           | .valid c => if c.kind = .load then some { offset := c.offset } else none
           | _ => none) ∧
       (i.val < first ∨ first + l.length ≤ i.val →
         t.tables.active.channels[i] = s.tables.active.channels[i] ∧
         t.tables.pending.channels[i] = s.tables.pending.channels[i] ∧ t.rings[i] = s.rings[i] ∧
         t.port.decimation[i] = s.port.decimation[i] ∧ t.load.zero[i] = s.load.zero[i])) ∧
  (∀ (s : State) (first : Nat),
     let written {α : Type} {n : Nat} (old new : Vector α n) (l : List α) : Prop := ∀ i : Fin n,
       (∀ e, first ≤ i.val → l[i.val - first]? = some e → new[i] = e) ∧
       (i.val < first ∨ first + l.length ≤ i.val → new[i] = old[i])
     (∀ x, s.writeActive (.bands x) = { s with tables.active.bands := x, tables.pending.bands := none }) ∧
     (∀ l, first + l.length ≤ 64 →
       let t := s.writeActive (.patterns first l)
       t = { s with
         tables.active.patterns := t.tables.active.patterns, tables.pending.patterns := t.tables.pending.patterns } ∧
       written s.tables.active.patterns t.tables.active.patterns l ∧
       written s.tables.pending.patterns t.tables.pending.patterns (l.map fun _ => none)) ∧
     (∀ l, first + l.length ≤ 16 →
       let t := s.writeActive (.thresholds first l)
       t = { s with
         tables.active.thresholds := t.tables.active.thresholds
         tables.pending.thresholds := t.tables.pending.thresholds } ∧
       written s.tables.active.thresholds t.tables.active.thresholds l ∧
       written s.tables.pending.thresholds t.tables.pending.thresholds (l.map fun _ => none)) ∧
     (∀ x, s.writePending (.site x) = { s with tables.pending.site := some x }) ∧
     (∀ x, s.writePending (.bands x) = { s with tables.pending.bands := some x }) ∧
     (∀ l, first + l.length ≤ 24 →
       let t := s.writePending (.channels first l)
       t = { s with tables.pending.channels := t.tables.pending.channels } ∧
       written s.tables.pending.channels t.tables.pending.channels (l.map some)) ∧
     (∀ l, first + l.length ≤ 64 →
       let t := s.writePending (.patterns first l)
       t = { s with tables.pending.patterns := t.tables.pending.patterns } ∧
       written s.tables.pending.patterns t.tables.pending.patterns (l.map some)) ∧
     (∀ l, first + l.length ≤ 16 →
       let t := s.writePending (.thresholds first l)
       t = { s with tables.pending.thresholds := t.tables.pending.thresholds } ∧
       written s.tables.pending.thresholds t.tables.pending.thresholds (l.map some))) ∧
  (∀ s : State,
     let a := s.tables.active
     let p := s.tables.pending
     let t := s.applyPending
     t.tables.pending = {} ∧ t.tables.active.site = p.site.or a.site ∧ t.tables.active.bands = p.bands.getD a.bands ∧
     (∀ j : Fin 64, t.tables.active.patterns[j] = (p.patterns[j]).getD a.patterns[j]) ∧
     (∀ j : Fin 16, t.tables.active.thresholds[j] = (p.thresholds[j]).getD a.thresholds[j]) ∧
     (∀ i : ChanIdx,
       (p.channels[i] = none → t.tables.active.channels[i] = a.channels[i] ∧ t.rings[i] = s.rings[i] ∧
         t.load.zero[i] = s.load.zero[i] ∧ t.port.decimation[i] = s.port.decimation[i]) ∧
       (∀ e, p.channels[i] = some e → t.tables.active.channels[i] = e ∧ t.rings[i] = [] ∧ t.port.decimation[i] = 0 ∧
         t.load.zero[i] = match e with
           | .valid c => if c.kind = .load then some { offset := c.offset } else none
           | _ => none)) ∧
     (s.session.state ≠ .notReady → t.session = s.session) ∧ t.axles = s.axles ∧ t.group = s.group ∧ t.alert = s.alert ∧
     t.gate = s.gate ∧ t.report = s.report ∧ t.heads = s.heads ∧ t.node = s.node ∧ t.thermal = s.thermal)

/-- A site reset: the session ends without a report, the state follows Site Constants and the power state; each head has its
filtered levels and its phase at the pins, no candidate, empty queues, no crossing in progress, RESYNC unless the phase is
00, and counts 0, but keeps the edges and crossings already handed to the session controller; the approach qualifiers take
the pins; and Axle Table, Vehicle List, parts, rings, Node Table, gates, reports, pending bank, transmit classes and
counters are as after power-on; kept are the clock, the sequence number, the wake cause record, the settle state, the power
state, the active bank, the enables, the waiting commands and the frames on the two lines. The replies of an ended
transaction, of an ended readout and of the command itself follow, in that order (R19, R42, R61, R77, R99, R135, R141, R151,
R162, R176). The layout of the two results (log entry 13), that the RESULT class is emptied too (log entry 25), that a
decoder step in progress ends (log entry 6), that what was handed on is kept in lists (log entry 5), that the cleared
session record holds the kept sequence number (log entry 24) and that the first THERMAL node stays remembered (log entry 20)
are the model's readings. -/
def Obligations.SiteResetLeaves : Prop :=
  ∀ (s : State) (dt : Time) (tag : Byte) (rest : List Command),
    s.port.commands = ⟨tag, [0x05]⟩ :: rest → s.replyRoom = true →
    ∃ t, exec (.siteReset dt) s = .next t ∧
      t = { State.reset with
        clock := s.clock + dt, heads := t.heads, session := t.session, axles.tableSeq := s.axles.tableSeq
        node.ready := s.node.ready.filter (fun f => !f.isRequest), node.line := s.node.line
        node.nextMark := s.node.nextMark, load.zero := t.load.zero, alert.entries := t.alert.entries
        port.commands := rest, port.line := s.port.line, port.replyQ := t.port.replyQ
        tables.active := s.tables.active, freeCount := s.freeCount, pending := s.pending } ∧
      t.session = { State.reset.session with
        state := if s.site = none then .notReady else if s.session.state = .standby then .standby else .idle
        power := s.session.power, seq := s.session.seq, record := { seq := s.session.seq }
        apr1 := { pin := s.session.apr1.pin, qualified := s.session.apr1.pin }
        apr2 := { pin := s.session.apr2.pin, qualified := s.session.apr2.pin }
        idle := if s.site ≠ none ∧ s.session.state ≠ .standby then
          some ⟨s.clock + dt, seconds (s.constant (·.idle) 300)⟩ else none
        settle := s.session.settle, settleState := s.session.settleState, thermalSeen := s.session.thermalSeen
        wakeCause := s.session.wakeCause, wakeTime := s.session.wakeTime } ∧
      (∀ k : AlertKind, t.alertEntry k = ⟨false, (s.alertEntry k).enabled, 0, none, none⟩) ∧
      (∀ i : ChanIdx, t.load.zero[i] = match s.tables.active.channels[i] with
        | .valid e => if e.kind = .load then some { offset := e.offset } else none
        | .notValid _ | .neverLoaded => none) ∧
      (∀ h : Head, t.head h =
        { c1 := { pin := (s.head h).c1.pin, filtered := (s.head h).c1.pin, candidate := none, queue := [], overrun := false
                  toSession := (s.head h).c1.toSession }
          c2 := { pin := (s.head h).c2.pin, filtered := (s.head h).c2.pin, candidate := none, queue := [], overrun := false
                  toSession := (s.head h).c2.toSession }
          phase1 := (s.head h).c1.pin, phase2 := (s.head h).c2.pin, resync := (s.head h).c1.pin || (s.head h).c2.pin
          passage := none, busy := 0, count := 0, chatter := 0, faults := 0, emitted := (s.head h).emitted }) ∧
      ∃ transaction readout : List OutFrame,
        t.port.replyQ = transaction ++ readout ++ [.reply ⟨tag, 0x05, .ok, []⟩] ∧
        (s.node.slot = none → transaction = []) ∧
        (∀ x, s.node.slot = some x → ∃ unanswered refused : Nat,
          (unanswered, refused) =
            (match s.node.work, x.firstAttempt with
              | some (.item (some _)), _ => (x.unanswered + 1, x.refused)
              | some (.item none), some _ => (x.unanswered, x.refused + 1)
              | _, _ => (x.unanswered, x.refused)) ∧
          transaction = [.reply ⟨x.tag, 0x0A, .ok, [6] ++ le2 x.attempted ++ le2 x.accepted ++ le2 refused ++
            le2 unanswered ++ le2 x.remaining ++ x.values.flatMap fun v => le2 v.1 ++ leHalf v.2⟩]) ∧
        (s.report.engine = none → readout = []) ∧
        (∀ e, s.report.engine = some e → readout =
          [.reply ⟨e.tag, 0x0F, .ok, [2] ++ le2 e.granted ++ le2 e.left ++ le2 (e.granted - e.left)⟩])

/-- The checks of LOAD TABLE in their order (R171). A count of 0, a count that disagrees with the payload and a pattern
whose slots do not hold n - 1 spacings are BAD_LENGTH; a table id above 4, a run beyond the table and a single record not at
0 are RANGE with index 0. A load is taken exactly when each entry is not valid, or valid with every field read at its offset
of Tables 11.7 and 11.8 and in its range, and the cross-field checks hold; otherwise it is RANGE with the index of the first
bad entry, or of the first entry involved in a failed cross-field check. That an id above 4 is refused whatever its length,
that a valid byte is 0 or 1, that n = 0 asks for an empty spacing list, and that the lowest index involved in any failed
cross-field check of the Channel Table is the first, are the model's readings (log entry 16). -/
def Obligations.TableLoadsAreChecked : Prop :=
  ∀ s : State,
    let v (b : List Byte) (i : Nat) : Nat := (b.getD i 0).toNat
    let w (b : List Byte) (i : Nat) : Nat := (b.getD i 0).toNat + 256 * (b.getD (i + 1) 0).toNat
    let place (n : Nat) : Option Nat := if n = 65535 then none else some n
    let ranges (l : List (Nat × Nat × Nat)) : Prop := ∀ x ∈ l, x.2.1 ≤ x.1 ∧ x.1 ≤ x.2.2
    let size (id : Byte) : Nat := [70, 12, 6, 22, 20].getD id.toNat 0
    let count (id : Byte) : Nat := [1, 24, 1, 64, 16].getD id.toNat 0
    let load (id first : Byte) (bs : List (List Byte)) : List Byte := [id, first, BitVec.ofNat 8 bs.length] ++ bs.flatten
    let spaced (b : List Byte) : Prop :=
      v b 0 = 1 → v b 2 ≤ 8 ∧ ∀ i, i < 7 → (w b (8 + 2 * i) = 0 ↔ v b 2 - 1 ≤ i)
    let entry {α : Type} (ok : List Byte → α → Prop) (b : List Byte) (e : Entry α) : Prop :=
      (v b 0 = 0 ∧ e = .notValid b) ∨ (v b 0 = 1 ∧ ∃ x, e = .valid x ∧ ok b x)
    let entries {α : Type} (ok : List Byte → α → Prop) (bs : List (List Byte)) (l : List (Entry α)) : Prop :=
      l.length = bs.length ∧ ∀ (i : Nat) (b : List Byte) (e : Entry α), bs[i]? = some b → l[i]? = some e → entry ok b e
    let site (b : List Byte) (c : SiteConstants) : Prop :=
      c.siteId = w b 0 ∧ c.lab = w b 2 ∧ c.coilSpacing = w b 4 ∧ c.minPulse = w b 6 ∧ c.standstill = v b 8 ∧ c.clear = v b 9 ∧
      c.abandon = v b 10 ∧ c.settle = v b 11 ∧ c.arm = w b 12 ∧ c.idle = w b 14 ∧ c.bayLength = w b 16 ∧
      (∀ i : Fin 6, c.bayStart.r1[i] = place (w b (18 + 2 * i.val)) ∧ c.bayStart.r2[i] = place (w b (30 + 2 * i.val))) ∧
      c.core = v b 42 ∧ c.halfWindow = v b 43 ∧ c.minSpeed = w b 44 ∧ c.maxSpeed = w b 46 ∧ c.impactCritical = w b 48 ∧
      c.axleLoadCritical = w b 50 ∧ c.scanner.r1 = place (w b 52) ∧ c.scanner.r2 = place (w b 54) ∧
      c.bearingCritical = w b 56 ∧ c.unclassifiedGap = w b 58 ∧
      (∀ g : Fin 4, [GateAction.forcedLow, .activeLow, .activeHigh, .forcedHigh][v b (60 + g.val)]? = some c.gates[g]) ∧
      [G3Source.none, .sessionOpen, .anySPending, .exitPulse][v b 64]? = some c.g3 ∧
      [false, true][v b 65]? = some c.liveResults ∧ c.camera = place (w b 66) ∧ c.cameraWidth = w b 68 ∧
      ranges [(c.lab, 2000, 20000), (c.coilSpacing, 20, 250), (c.minPulse, 10, 500), (c.standstill, 2, 60), (c.clear, 2, 60),
        (c.abandon, 1, 30), (c.settle, 1, 60), (c.arm, 10, 600), (c.idle, 30, 1800), (c.bayLength, 100, 1500), (c.core, 20, 90),
        (c.halfWindow, 20, 200), (c.minSpeed, 50, 400), (c.maxSpeed, 400, 1600), (c.impactCritical, 100, 13000),
        (c.axleLoadCritical, 200, 26000), (c.bearingCritical, 100, 3000), (c.unclassifiedGap, 1000, 6000),
        (c.cameraWidth, 100, 10000)] ∧
      (∀ (rail : Rail) (i : Fin 6) (x : Nat), (c.bayStart.get rail)[i] = some x →
        200 ≤ x ∧ x ≤ 19800 ∧ x + c.bayLength + 200 ≤ c.lab ∧
        ∀ (j : Fin 6) (y : Nat), i ≠ j → (c.bayStart.get rail)[j] = some y → x + c.bayLength ≤ y ∨ y + c.bayLength ≤ x) ∧
      (∀ (rail : Rail) (x : Nat), c.scanner.get rail = some x → 200 ≤ x ∧ x ≤ 19800 ∧ x + 200 ≤ c.lab) ∧
      (∀ x, c.camera = some x → x ≤ c.lab) ∧ c.minSpeed < c.maxSpeed
    let channel (b : List Byte) (e : Channel) : Prop :=
      e.node.val + 1 = v b 1 ∧ e.channel = v b 2 ∧ [ChannelKind.load, .bearing, .ambient][v b 3]? = some e.kind ∧
      e.rail = v b 4 ∧ e.bay = v b 5 ∧ [ForwardMode.never, .session, .always, .decimate][v b 6]? = some e.forward ∧
      e.decimation = v b 7 ∧ e.offset = (BitVec.ofNat 16 (w b 8)).toInt ∧ e.gain = w b 10 ∧ e.channel ≤ 7 ∧
      (e.kind ≠ .ambient → e.rail = 1 ∨ e.rail = 2) ∧ (e.kind = .load → 1 ≤ e.bay ∧ e.bay ≤ 6) ∧
      (e.kind ≠ .load → e.bay = 0) ∧ (e.forward = .decimate → 2 ≤ e.decimation ∧ e.decimation ≤ 64)
    let pattern (b : List Byte) (p : Pattern) : Prop :=
      p.cls = v b 1 ∧ p.n = v b 2 ∧ p.set = v b 3 ∧ p.tolerance = w b 4 ∧ p.gap = w b 6 ∧ p.spacings.length = p.n - 1 ∧
      (∀ i x, p.spacings[i]? = some x → x = w b (8 + 2 * i) ∧ 500 ≤ x ∧ x ≤ 25000) ∧
      ranges [(p.cls, 1, 255), (p.n, 2, 8), (p.set, 0, 15), (p.tolerance, 10, 500), (p.gap, 500, 10000)]
    let threshold (b : List Byte) (t : Threshold) : Prop :=
      t.imbalance = v b 1 ∧ (∀ i : Fin 4, t.impact[i] = w b (2 + 2 * i.val)) ∧ t.ratio = w b 10 ∧ t.axleLoad = w b 12 ∧
      t.rise = w b 14 ∧ t.difference = w b 16 ∧ t.outlierMargin = w b 18 ∧
      ranges [(t.imbalance, 1, 50), (t.impact[0], 50, 13000), (t.impact[1], 50, 13000), (t.impact[2], 50, 13000),
        (t.impact[3], 50, 13000), (t.ratio, 100, 400), (t.axleLoad, 200, 26000), (t.rise, 50, 3000), (t.difference, 50, 3000),
        (t.outlierMargin, 20, 1000)]
    (∀ l : List Byte, l.length < 3 → s.checkLoad l = .badLength) ∧
    (∀ (id first n : Byte) (l : List Byte), id.toNat ≤ 4 → n = 0 ∨ l.length ≠ n.toNat * size id →
      s.checkLoad (id :: first :: n :: l) = .badLength) ∧
    (∀ (id first n : Byte) (l : List Byte), 4 < id.toNat → n ≠ 0 → s.checkLoad (id :: first :: n :: l) = .range 0) ∧
    (∀ (id first : Byte) (bs : List (List Byte)), id.toNat ≤ 4 → 1 ≤ bs.length → bs.length ≤ 255 →
      (∀ b ∈ bs, b.length = size id) →
      (id = 3 → (∃ b ∈ bs, ¬ spaced b) → s.checkLoad (load id first bs) = .badLength) ∧
      ((id = 3 → ∀ b ∈ bs, spaced b) →
        count id < first.toNat + bs.length ∨ ((id = 0 ∨ id = 2) ∧ first ≠ 0) → s.checkLoad (load id first bs) = .range 0)) ∧
    (∀ b : List Byte, b.length = 70 →
      (∀ c, s.checkLoad (load 0 0 [b]) = .ok (.site c) ↔ site b c) ∧
      ((∀ c, ¬ site b c) → s.checkLoad (load 0 0 [b]) = .range 0)) ∧
    (∀ (first : Byte) (bs : List (List Byte)), 1 ≤ bs.length → first.toNat + bs.length ≤ 24 → (∀ b ∈ bs, b.length = 12) →
      (∀ l, entries channel bs l →
        let stands (i : ChanIdx) : Entry Channel := (s.tables.pending.channels[i]).getD s.tables.active.channels[i]
        let seen (i : ChanIdx) : Entry Channel :=
          if first.toNat ≤ i.val then (l[i.val - first.toNat]?).getD (stands i) else stands i
        let involved (i : ChanIdx) : Prop := ∃ e, seen i = .valid e ∧ ((e.kind ≠ .load ∧ 3 < e.channel) ∨
          ∃ j f, j ≠ i ∧ seen j = .valid f ∧ ((e.node = f.node ∧ e.channel = f.channel) ∨ (e.kind = f.kind ∧
            (e.kind = .ambient ∨ e.rail = f.rail ∧ (e.kind = .bearing ∨ e.bay = f.bay)))))
        ((∀ i, ¬ involved i) → s.checkLoad (load 1 first bs) = .ok (.channels first.toNat l)) ∧
        (∀ i, involved i → (∀ j, j < i → ¬ involved j) → s.checkLoad (load 1 first bs) = .range i.val)) ∧
      (∀ pre b post, bs = pre ++ b :: post → (∀ x ∈ pre, ∃ e, entry channel x e) → (∀ e, ¬ entry channel b e) →
        s.checkLoad (load 1 first bs) = .range (first.toNat + pre.length))) ∧
    (∀ (first : Byte) (bs : List (List Byte)), 1 ≤ bs.length → first.toNat + bs.length ≤ 64 → (∀ b ∈ bs, b.length = 22) →
      (∀ b ∈ bs, spaced b) →
      (∀ l, entries pattern bs l → s.checkLoad (load 3 first bs) = .ok (.patterns first.toNat l)) ∧
      (∀ pre b post, bs = pre ++ b :: post → (∀ x ∈ pre, ∃ e, entry pattern x e) → (∀ e, ¬ entry pattern b e) →
        s.checkLoad (load 3 first bs) = .range (first.toNat + pre.length))) ∧
    (∀ (first : Byte) (bs : List (List Byte)), 1 ≤ bs.length → first.toNat + bs.length ≤ 16 → (∀ b ∈ bs, b.length = 20) →
      (∀ l, entries threshold bs l → s.checkLoad (load 4 first bs) = .ok (.thresholds first.toNat l)) ∧
      (∀ pre b post, bs = pre ++ b :: post → (∀ x ∈ pre, ∃ e, entry threshold x e) → (∀ e, ¬ entry threshold b e) →
        s.checkLoad (load 4 first bs) = .range (first.toNat + pre.length)))
end

