-- ==== Sys2Proof/Laws/State.lean ====
section
/-!
SUPPORT. Small lemmas of the state: reading what was just set, and for each shared update of Machine/Ops.lean the
parts of the state it leaves alone, with what it does to the part it changes.
-/

namespace Sys2Proof.Machine

/-! ## Pairs -/

@[simp] theorem PerHead.get_set_self {α : Type} (p : PerHead α) (h : Head) (x : α) : (p.set h x).get h = x := by
  cases h <;> rfl

@[simp] theorem PerHead.get_set_other {α : Type} (p : PerHead α) (h : Head) (x : α) :
    (p.set h x).get (otherHead h) = p.get (otherHead h) := by
  cases h <;> rfl

theorem PerHead.get_set_ne {α : Type} (p : PerHead α) {h g : Head} (x : α) (hg : g ≠ h) :
    (p.set h x).get g = p.get g := by
  cases h <;> cases g <;> simp_all [PerHead.get, PerHead.set]

@[simp] theorem PerRail.get_set_self {α : Type} (p : PerRail α) (r : Rail) (x : α) : (p.set r x).get r = x := by
  cases r <;> rfl

theorem PerRail.get_set_ne {α : Type} (p : PerRail α) {r q : Rail} (x : α) (hq : q ≠ r) :
    (p.set r x).get q = p.get q := by
  cases r <;> cases q <;> simp_all [PerRail.get, PerRail.set]

@[simp] theorem HeadState.line_setLine_self (hs : HeadState) (c : Coil) (l : CoilLine) :
    (hs.setLine c l).line c = l := by
  cases c <;> rfl

theorem HeadState.line_setLine_ne (hs : HeadState) {c d : Coil} (l : CoilLine) (hd : d ≠ c) :
    (hs.setLine c l).line d = hs.line d := by
  cases c <;> cases d <;> simp_all [HeadState.line, HeadState.setLine]

@[simp] theorem HeadState.setLine_rest (hs : HeadState) (c : Coil) (l : CoilLine) :
    (hs.setLine c l).phase1 = hs.phase1 ∧ (hs.setLine c l).phase2 = hs.phase2 ∧
    (hs.setLine c l).resync = hs.resync ∧ (hs.setLine c l).passage = hs.passage ∧
    (hs.setLine c l).busy = hs.busy ∧ (hs.setLine c l).count = hs.count ∧
    (hs.setLine c l).chatter = hs.chatter ∧ (hs.setLine c l).faults = hs.faults ∧
    (hs.setLine c l).emitted = hs.emitted := by
  cases c <;> exact ⟨rfl, rfl, rfl, rfl, rfl, rfl, rfl, rfl, rfl⟩

/-! ## What an update sets -/

@[simp] theorem State.advance_clock (s : State) (dt : Time) : (s.advance dt).clock = s.clock + dt := rfl

@[simp] theorem State.head_setHead_self (s : State) (h : Head) (x : HeadState) : (s.setHead h x).head h = x := by
  cases h <;> rfl

theorem State.head_setHead_ne (s : State) {h g : Head} (x : HeadState) (hg : g ≠ h) :
    (s.setHead h x).head g = s.head g := PerHead.get_set_ne _ _ hg

@[simp] theorem State.approach_setApproach_self (s : State) (i : Approach) (a : ApproachInput) :
    (s.setApproach i a).session.approach i = a := by
  cases i <;> rfl

@[simp] theorem State.updRecord_axles (s : State) (k : Nat) (f : AxleRecord → AxleRecord) :
    (s.updRecord k f).axles =
      { s.axles with records := s.axles.records.map fun r => if r.ordinal = k then f r else r } := rfl

@[simp] theorem State.updVehicle_group (s : State) (v : Nat) (f : Vehicle → Vehicle) :
    (s.updVehicle v f).group =
      { s.group with vehicles := s.group.vehicles.map fun x => if x.index = v then f x else x } := rfl

@[simp] theorem State.node_updNode_self (s : State) (k : NodeAddr) (f : NodeEntry → NodeEntry) :
    (s.updNode k f).node.nodes[k] = f s.node.nodes[k] := by
  simp [State.updNode]

@[simp] theorem State.placeReply_port (s : State) (r : Reply) :
    (s.placeReply r).port = { s.port with replyQ := s.port.replyQ ++ [.reply r] } := rfl

/-- A count that saturates at 65535 never passes it. -/
theorem bump_le (n : Nat) : bump n ≤ 65535 := Nat.min_le_right _ _

/-- Below its bound a count rises by 1. -/
theorem bump_of_lt {n : Nat} (h : n < 65535) : bump n = n + 1 := by
  simp [bump]; omega

/-! ## What each update leaves alone -/

@[simp] theorem State.advance_frame (s : State) (dt : Time) :
    (s.advance dt).session = s.session ∧ (s.advance dt).axles = s.axles ∧ (s.advance dt).node = s.node ∧
    (s.advance dt).rings = s.rings ∧ (s.advance dt).load = s.load ∧ (s.advance dt).thermal = s.thermal ∧
    (s.advance dt).group = s.group ∧ (s.advance dt).alert = s.alert ∧ (s.advance dt).gate = s.gate ∧
    (s.advance dt).report = s.report ∧ (s.advance dt).port = s.port ∧ (s.advance dt).tables = s.tables ∧
    (s.advance dt).freeCount = s.freeCount ∧ (s.advance dt).pending = s.pending := ⟨rfl, rfl, rfl, rfl, rfl, rfl, rfl, rfl, rfl, rfl, rfl, rfl, rfl, rfl⟩

@[simp] theorem State.setHead_frame (s : State) (h : Head) (x : HeadState) :
    (s.setHead h x).clock = s.clock ∧ (s.setHead h x).session = s.session ∧ (s.setHead h x).axles = s.axles ∧
    (s.setHead h x).node = s.node ∧ (s.setHead h x).rings = s.rings ∧ (s.setHead h x).load = s.load ∧
    (s.setHead h x).thermal = s.thermal ∧ (s.setHead h x).group = s.group ∧ (s.setHead h x).alert = s.alert ∧
    (s.setHead h x).gate = s.gate ∧ (s.setHead h x).report = s.report ∧ (s.setHead h x).port = s.port ∧
    (s.setHead h x).tables = s.tables ∧ (s.setHead h x).freeCount = s.freeCount ∧ (s.setHead h x).pending = s.pending := ⟨rfl, rfl, rfl, rfl, rfl, rfl, rfl, rfl, rfl, rfl, rfl, rfl, rfl, rfl, rfl⟩

@[simp] theorem State.setApproach_frame (s : State) (i : Approach) (a : ApproachInput) :
    (s.setApproach i a).clock = s.clock ∧ (s.setApproach i a).heads = s.heads ∧ (s.setApproach i a).axles = s.axles ∧
    (s.setApproach i a).node = s.node ∧ (s.setApproach i a).rings = s.rings ∧ (s.setApproach i a).load = s.load ∧
    (s.setApproach i a).thermal = s.thermal ∧ (s.setApproach i a).group = s.group ∧
    (s.setApproach i a).alert = s.alert ∧ (s.setApproach i a).gate = s.gate ∧ (s.setApproach i a).report = s.report ∧
    (s.setApproach i a).port = s.port ∧ (s.setApproach i a).tables = s.tables ∧
    (s.setApproach i a).freeCount = s.freeCount ∧ (s.setApproach i a).pending = s.pending := by cases i <;> simp [State.setApproach]

@[simp] theorem State.updRecord_frame (s : State) (k : Nat) (f : AxleRecord → AxleRecord) :
    (s.updRecord k f).clock = s.clock ∧ (s.updRecord k f).heads = s.heads ∧ (s.updRecord k f).session = s.session ∧
    (s.updRecord k f).node = s.node ∧ (s.updRecord k f).rings = s.rings ∧ (s.updRecord k f).load = s.load ∧
    (s.updRecord k f).thermal = s.thermal ∧ (s.updRecord k f).group = s.group ∧ (s.updRecord k f).alert = s.alert ∧
    (s.updRecord k f).gate = s.gate ∧ (s.updRecord k f).report = s.report ∧ (s.updRecord k f).port = s.port ∧
    (s.updRecord k f).tables = s.tables ∧ (s.updRecord k f).freeCount = s.freeCount ∧
    (s.updRecord k f).pending = s.pending := ⟨rfl, rfl, rfl, rfl, rfl, rfl, rfl, rfl, rfl, rfl, rfl, rfl, rfl, rfl, rfl⟩

@[simp] theorem State.updVehicle_frame (s : State) (v : Nat) (f : Vehicle → Vehicle) :
    (s.updVehicle v f).clock = s.clock ∧ (s.updVehicle v f).heads = s.heads ∧
    (s.updVehicle v f).session = s.session ∧ (s.updVehicle v f).axles = s.axles ∧ (s.updVehicle v f).node = s.node ∧
    (s.updVehicle v f).rings = s.rings ∧ (s.updVehicle v f).load = s.load ∧ (s.updVehicle v f).thermal = s.thermal ∧
    (s.updVehicle v f).alert = s.alert ∧ (s.updVehicle v f).gate = s.gate ∧ (s.updVehicle v f).report = s.report ∧
    (s.updVehicle v f).port = s.port ∧ (s.updVehicle v f).tables = s.tables ∧
    (s.updVehicle v f).freeCount = s.freeCount ∧ (s.updVehicle v f).pending = s.pending := ⟨rfl, rfl, rfl, rfl, rfl, rfl, rfl, rfl, rfl, rfl, rfl, rfl, rfl, rfl, rfl⟩

@[simp] theorem State.updNode_frame (s : State) (k : NodeAddr) (f : NodeEntry → NodeEntry) :
    (s.updNode k f).clock = s.clock ∧ (s.updNode k f).heads = s.heads ∧ (s.updNode k f).session = s.session ∧
    (s.updNode k f).axles = s.axles ∧ (s.updNode k f).rings = s.rings ∧ (s.updNode k f).load = s.load ∧
    (s.updNode k f).thermal = s.thermal ∧ (s.updNode k f).group = s.group ∧ (s.updNode k f).alert = s.alert ∧
    (s.updNode k f).gate = s.gate ∧ (s.updNode k f).report = s.report ∧ (s.updNode k f).port = s.port ∧
    (s.updNode k f).tables = s.tables ∧ (s.updNode k f).freeCount = s.freeCount ∧ (s.updNode k f).pending = s.pending := ⟨rfl, rfl, rfl, rfl, rfl, rfl, rfl, rfl, rfl, rfl, rfl, rfl, rfl, rfl, rfl⟩

@[simp] theorem State.drawByte_frame (s : State) :
    s.drawByte.2.clock = s.clock ∧ s.drawByte.2.heads = s.heads ∧ s.drawByte.2.session = s.session ∧
    s.drawByte.2.axles = s.axles ∧ s.drawByte.2.node = s.node ∧ s.drawByte.2.rings = s.rings ∧
    s.drawByte.2.load = s.load ∧ s.drawByte.2.thermal = s.thermal ∧ s.drawByte.2.group = s.group ∧
    s.drawByte.2.alert = s.alert ∧ s.drawByte.2.gate = s.gate ∧ s.drawByte.2.report = s.report ∧
    s.drawByte.2.port = s.port ∧ s.drawByte.2.tables = s.tables ∧ s.drawByte.2.pending = s.pending := ⟨rfl, rfl, rfl, rfl, rfl, rfl, rfl, rfl, rfl, rfl, rfl, rfl, rfl, rfl, rfl⟩

@[simp] theorem State.drawIndex_frame (s : State) :
    s.drawIndex.2.clock = s.clock ∧ s.drawIndex.2.heads = s.heads ∧ s.drawIndex.2.session = s.session ∧
    s.drawIndex.2.axles = s.axles ∧ s.drawIndex.2.node = s.node ∧ s.drawIndex.2.rings = s.rings ∧
    s.drawIndex.2.load = s.load ∧ s.drawIndex.2.thermal = s.thermal ∧ s.drawIndex.2.group = s.group ∧
    s.drawIndex.2.alert = s.alert ∧ s.drawIndex.2.gate = s.gate ∧ s.drawIndex.2.report = s.report ∧
    s.drawIndex.2.port = s.port ∧ s.drawIndex.2.tables = s.tables ∧ s.drawIndex.2.pending = s.pending := ⟨rfl, rfl, rfl, rfl, rfl, rfl, rfl, rfl, rfl, rfl, rfl, rfl, rfl, rfl, rfl⟩

@[simp] theorem State.placeReply_frame (s : State) (r : Reply) :
    (s.placeReply r).clock = s.clock ∧ (s.placeReply r).heads = s.heads ∧ (s.placeReply r).session = s.session ∧
    (s.placeReply r).axles = s.axles ∧ (s.placeReply r).node = s.node ∧ (s.placeReply r).rings = s.rings ∧
    (s.placeReply r).load = s.load ∧ (s.placeReply r).thermal = s.thermal ∧ (s.placeReply r).group = s.group ∧
    (s.placeReply r).alert = s.alert ∧ (s.placeReply r).gate = s.gate ∧ (s.placeReply r).report = s.report ∧
    (s.placeReply r).tables = s.tables ∧ (s.placeReply r).freeCount = s.freeCount ∧
    (s.placeReply r).pending = s.pending := ⟨rfl, rfl, rfl, rfl, rfl, rfl, rfl, rfl, rfl, rfl, rfl, rfl, rfl, rfl, rfl⟩

@[simp] theorem State.offerReply_frame (s : State) (r : Reply) :
    (s.offerReply r).clock = s.clock ∧ (s.offerReply r).heads = s.heads ∧ (s.offerReply r).session = s.session ∧
    (s.offerReply r).axles = s.axles ∧ (s.offerReply r).node = s.node ∧ (s.offerReply r).rings = s.rings ∧
    (s.offerReply r).load = s.load ∧ (s.offerReply r).thermal = s.thermal ∧ (s.offerReply r).group = s.group ∧
    (s.offerReply r).alert = s.alert ∧ (s.offerReply r).gate = s.gate ∧ (s.offerReply r).report = s.report ∧
    (s.offerReply r).tables = s.tables ∧ (s.offerReply r).freeCount = s.freeCount ∧
    (s.offerReply r).pending = s.pending := by
  and_intros <;> (unfold State.offerReply; repeat' split) <;> simp

@[simp] theorem State.offerAlert_frame (s : State) (f : OutFrame) :
    (s.offerAlert f).clock = s.clock ∧ (s.offerAlert f).heads = s.heads ∧ (s.offerAlert f).session = s.session ∧
    (s.offerAlert f).axles = s.axles ∧ (s.offerAlert f).node = s.node ∧ (s.offerAlert f).rings = s.rings ∧
    (s.offerAlert f).load = s.load ∧ (s.offerAlert f).thermal = s.thermal ∧ (s.offerAlert f).group = s.group ∧
    (s.offerAlert f).gate = s.gate ∧ (s.offerAlert f).report = s.report ∧ (s.offerAlert f).tables = s.tables ∧
    (s.offerAlert f).freeCount = s.freeCount ∧ (s.offerAlert f).pending = s.pending := by
  and_intros <;> (unfold State.offerAlert; repeat' split) <;> simp

@[simp] theorem State.offerResult_frame (s : State) (f : OutFrame) :
    (s.offerResult f).clock = s.clock ∧ (s.offerResult f).heads = s.heads ∧ (s.offerResult f).session = s.session ∧
    (s.offerResult f).axles = s.axles ∧ (s.offerResult f).node = s.node ∧ (s.offerResult f).rings = s.rings ∧
    (s.offerResult f).load = s.load ∧ (s.offerResult f).thermal = s.thermal ∧ (s.offerResult f).group = s.group ∧
    (s.offerResult f).alert = s.alert ∧ (s.offerResult f).gate = s.gate ∧ (s.offerResult f).report = s.report ∧
    (s.offerResult f).tables = s.tables ∧ (s.offerResult f).freeCount = s.freeCount ∧
    (s.offerResult f).pending = s.pending := by
  and_intros <;> (unfold State.offerResult; repeat' split) <;> simp

@[simp] theorem State.offerForward_frame (s : State) (f : OutFrame) :
    (s.offerForward f).clock = s.clock ∧ (s.offerForward f).heads = s.heads ∧
    (s.offerForward f).session = s.session ∧ (s.offerForward f).axles = s.axles ∧ (s.offerForward f).node = s.node ∧
    (s.offerForward f).rings = s.rings ∧ (s.offerForward f).load = s.load ∧ (s.offerForward f).thermal = s.thermal ∧
    (s.offerForward f).group = s.group ∧ (s.offerForward f).alert = s.alert ∧ (s.offerForward f).gate = s.gate ∧
    (s.offerForward f).report = s.report ∧ (s.offerForward f).tables = s.tables ∧
    (s.offerForward f).freeCount = s.freeCount ∧ (s.offerForward f).pending = s.pending := by
  and_intros <;> (unfold State.offerForward; repeat' split) <;> simp

@[simp] theorem State.noteAxleAlert_frame (s : State) (k : AlertKind) (src : Source) :
    (s.noteAxleAlert k src).clock = s.clock ∧ (s.noteAxleAlert k src).heads = s.heads ∧
    (s.noteAxleAlert k src).session = s.session ∧ (s.noteAxleAlert k src).node = s.node ∧
    (s.noteAxleAlert k src).rings = s.rings ∧ (s.noteAxleAlert k src).load = s.load ∧
    (s.noteAxleAlert k src).thermal = s.thermal ∧ (s.noteAxleAlert k src).group = s.group ∧
    (s.noteAxleAlert k src).alert = s.alert ∧ (s.noteAxleAlert k src).gate = s.gate ∧
    (s.noteAxleAlert k src).report = s.report ∧ (s.noteAxleAlert k src).port = s.port ∧
    (s.noteAxleAlert k src).tables = s.tables ∧ (s.noteAxleAlert k src).freeCount = s.freeCount ∧
    (s.noteAxleAlert k src).pending = s.pending := by
  and_intros <;> (unfold State.noteAxleAlert; repeat' split) <;> simp

@[simp] theorem State.offerAlertIf_frame (s : State) (k : AlertKind) (e : AlertEntry) (src : Source) :
    (s.offerAlertIf k e src).clock = s.clock ∧ (s.offerAlertIf k e src).heads = s.heads ∧
    (s.offerAlertIf k e src).session = s.session ∧ (s.offerAlertIf k e src).axles = s.axles ∧
    (s.offerAlertIf k e src).node = s.node ∧ (s.offerAlertIf k e src).rings = s.rings ∧
    (s.offerAlertIf k e src).load = s.load ∧ (s.offerAlertIf k e src).thermal = s.thermal ∧
    (s.offerAlertIf k e src).group = s.group ∧ (s.offerAlertIf k e src).gate = s.gate ∧
    (s.offerAlertIf k e src).report = s.report ∧ (s.offerAlertIf k e src).tables = s.tables ∧
    (s.offerAlertIf k e src).freeCount = s.freeCount ∧ (s.offerAlertIf k e src).pending = s.pending := by
  and_intros <;> (unfold State.offerAlertIf; repeat' split) <;> simp

@[simp] theorem State.countTrainRaise_frame (s : State) (k : AlertKind) :
    (s.countTrainRaise k).clock = s.clock ∧ (s.countTrainRaise k).heads = s.heads ∧
    (s.countTrainRaise k).session = s.session ∧ (s.countTrainRaise k).axles = s.axles ∧
    (s.countTrainRaise k).node = s.node ∧ (s.countTrainRaise k).rings = s.rings ∧
    (s.countTrainRaise k).load = s.load ∧ (s.countTrainRaise k).thermal = s.thermal ∧
    (s.countTrainRaise k).group = s.group ∧ (s.countTrainRaise k).gate = s.gate ∧
    (s.countTrainRaise k).report = s.report ∧ (s.countTrainRaise k).port = s.port ∧
    (s.countTrainRaise k).tables = s.tables ∧ (s.countTrainRaise k).freeCount = s.freeCount ∧
    (s.countTrainRaise k).pending = s.pending := by
  and_intros <;> (unfold State.countTrainRaise; repeat' split) <;> simp

@[simp] theorem State.raise_frame (s : State) (k : AlertKind) (src : Source) :
    (s.raise k src).clock = s.clock ∧ (s.raise k src).heads = s.heads ∧ (s.raise k src).session = s.session ∧
    (s.raise k src).node = s.node ∧ (s.raise k src).rings = s.rings ∧ (s.raise k src).load = s.load ∧
    (s.raise k src).thermal = s.thermal ∧ (s.raise k src).group = s.group ∧ (s.raise k src).gate = s.gate ∧
    (s.raise k src).report = s.report ∧ (s.raise k src).tables = s.tables ∧ (s.raise k src).freeCount = s.freeCount ∧
    (s.raise k src).pending = s.pending := by simp [State.raise]

@[simp] theorem State.headFault_frame (s : State) (h : Head) :
    (s.headFault h).clock = s.clock ∧ (s.headFault h).session = s.session ∧ (s.headFault h).node = s.node ∧
    (s.headFault h).rings = s.rings ∧ (s.headFault h).load = s.load ∧ (s.headFault h).thermal = s.thermal ∧
    (s.headFault h).group = s.group ∧ (s.headFault h).gate = s.gate ∧ (s.headFault h).report = s.report ∧
    (s.headFault h).tables = s.tables ∧ (s.headFault h).freeCount = s.freeCount ∧ (s.headFault h).pending = s.pending := by simp [State.headFault]

end Sys2Proof.Machine
end

