-- ==== Sys2Proof/Laws/Frames.lean ====
section
/-!
SUPPORT. Frames: for each shared operation of the blocks, one lemma that names every part of the state the operation
leaves alone. As simp lemmas they rewrite a part of the state after to the part of the state before.
-/

namespace Sys2Proof.Machine

@[simp] theorem State.formCandidate_frame (s : State) (h : Head) (c : Coil) (l : Bool) :
    (s.formCandidate h c l).clock = s.clock ∧ (s.formCandidate h c l).session = s.session ∧
    (s.formCandidate h c l).axles = s.axles ∧ (s.formCandidate h c l).node = s.node ∧
    (s.formCandidate h c l).rings = s.rings ∧ (s.formCandidate h c l).load = s.load ∧
    (s.formCandidate h c l).thermal = s.thermal ∧ (s.formCandidate h c l).group = s.group ∧
    (s.formCandidate h c l).alert = s.alert ∧ (s.formCandidate h c l).gate = s.gate ∧
    (s.formCandidate h c l).report = s.report ∧ (s.formCandidate h c l).port = s.port ∧
    (s.formCandidate h c l).tables = s.tables ∧ (s.formCandidate h c l).freeCount = s.freeCount ∧
    (s.formCandidate h c l).pending = s.pending := ⟨rfl, rfl, rfl, rfl, rfl, rfl, rfl, rfl, rfl, rfl, rfl, rfl, rfl, rfl, rfl⟩

@[simp] theorem State.dropPulse_frame (s : State) (h : Head) (c : Coil) :
    (s.dropPulse h c).clock = s.clock ∧ (s.dropPulse h c).session = s.session ∧ (s.dropPulse h c).axles = s.axles ∧
    (s.dropPulse h c).node = s.node ∧ (s.dropPulse h c).rings = s.rings ∧ (s.dropPulse h c).load = s.load ∧
    (s.dropPulse h c).thermal = s.thermal ∧ (s.dropPulse h c).group = s.group ∧ (s.dropPulse h c).alert = s.alert ∧
    (s.dropPulse h c).gate = s.gate ∧ (s.dropPulse h c).report = s.report ∧ (s.dropPulse h c).port = s.port ∧
    (s.dropPulse h c).tables = s.tables ∧ (s.dropPulse h c).freeCount = s.freeCount ∧
    (s.dropPulse h c).pending = s.pending := ⟨rfl, rfl, rfl, rfl, rfl, rfl, rfl, rfl, rfl, rfl, rfl, rfl, rfl, rfl, rfl⟩

@[simp] theorem State.setPin_frame (s : State) (h : Head) (c : Coil) (l : Bool) :
    (s.setPin h c l).clock = s.clock ∧ (s.setPin h c l).session = s.session ∧ (s.setPin h c l).axles = s.axles ∧
    (s.setPin h c l).node = s.node ∧ (s.setPin h c l).rings = s.rings ∧ (s.setPin h c l).load = s.load ∧
    (s.setPin h c l).thermal = s.thermal ∧ (s.setPin h c l).group = s.group ∧ (s.setPin h c l).alert = s.alert ∧
    (s.setPin h c l).gate = s.gate ∧ (s.setPin h c l).report = s.report ∧ (s.setPin h c l).port = s.port ∧
    (s.setPin h c l).tables = s.tables ∧ (s.setPin h c l).freeCount = s.freeCount ∧
    (s.setPin h c l).pending = s.pending := ⟨rfl, rfl, rfl, rfl, rfl, rfl, rfl, rfl, rfl, rfl, rfl, rfl, rfl, rfl, rfl⟩

@[simp] theorem State.commitCandidate_frame (s : State) (h : Head) (c : Coil) (x : Candidate) :
    (s.commitCandidate h c x).clock = s.clock ∧ (s.commitCandidate h c x).session = s.session ∧
    (s.commitCandidate h c x).node = s.node ∧ (s.commitCandidate h c x).rings = s.rings ∧
    (s.commitCandidate h c x).load = s.load ∧ (s.commitCandidate h c x).thermal = s.thermal ∧
    (s.commitCandidate h c x).group = s.group ∧ (s.commitCandidate h c x).gate = s.gate ∧
    (s.commitCandidate h c x).report = s.report ∧ (s.commitCandidate h c x).tables = s.tables ∧
    (s.commitCandidate h c x).freeCount = s.freeCount ∧ (s.commitCandidate h c x).pending = s.pending := by
  and_intros <;> (simp only [State.commitCandidate]; repeat' split) <;> simp

@[simp] theorem State.pinTransition_frame (s : State) (h : Head) (c : Coil) (l : Bool) :
    (s.pinTransition h c l).clock = s.clock ∧ (s.pinTransition h c l).session = s.session ∧
    (s.pinTransition h c l).node = s.node ∧ (s.pinTransition h c l).rings = s.rings ∧
    (s.pinTransition h c l).load = s.load ∧ (s.pinTransition h c l).thermal = s.thermal ∧
    (s.pinTransition h c l).group = s.group ∧ (s.pinTransition h c l).gate = s.gate ∧
    (s.pinTransition h c l).report = s.report ∧ (s.pinTransition h c l).tables = s.tables ∧
    (s.pinTransition h c l).freeCount = s.freeCount ∧ (s.pinTransition h c l).pending = s.pending := by
  and_intros <;> (simp only [State.pinTransition]; repeat' split) <;> simp

@[simp] theorem State.applyStep_frame (s : State) (h : Head) (o : StepOut) :
    (s.applyStep h o).clock = s.clock ∧ (s.applyStep h o).session = s.session ∧ (s.applyStep h o).node = s.node ∧
    (s.applyStep h o).rings = s.rings ∧ (s.applyStep h o).load = s.load ∧ (s.applyStep h o).thermal = s.thermal ∧
    (s.applyStep h o).group = s.group ∧ (s.applyStep h o).gate = s.gate ∧ (s.applyStep h o).report = s.report ∧
    (s.applyStep h o).tables = s.tables ∧ (s.applyStep h o).freeCount = s.freeCount ∧
    (s.applyStep h o).pending = s.pending := by
  and_intros <;> (simp only [State.applyStep]; repeat' split) <;> simp

@[simp] theorem State.decode_frame (s : State) (h : Head) :
    (s.decode h).clock = s.clock ∧ (s.decode h).session = s.session ∧ (s.decode h).node = s.node ∧
    (s.decode h).rings = s.rings ∧ (s.decode h).load = s.load ∧ (s.decode h).thermal = s.thermal ∧
    (s.decode h).group = s.group ∧ (s.decode h).gate = s.gate ∧ (s.decode h).report = s.report ∧
    (s.decode h).tables = s.tables ∧ (s.decode h).freeCount = s.freeCount ∧ (s.decode h).pending = s.pending := by
  and_intros <;> (simp only [State.decode]; repeat' split) <;> simp

@[simp] theorem State.emptyRing_frame (s : State) (i : ChanIdx) :
    (s.emptyRing i).clock = s.clock ∧ (s.emptyRing i).heads = s.heads ∧ (s.emptyRing i).session = s.session ∧
    (s.emptyRing i).axles = s.axles ∧ (s.emptyRing i).node = s.node ∧ (s.emptyRing i).load = s.load ∧
    (s.emptyRing i).thermal = s.thermal ∧ (s.emptyRing i).group = s.group ∧ (s.emptyRing i).alert = s.alert ∧
    (s.emptyRing i).gate = s.gate ∧ (s.emptyRing i).report = s.report ∧ (s.emptyRing i).port = s.port ∧
    (s.emptyRing i).tables = s.tables ∧ (s.emptyRing i).freeCount = s.freeCount ∧ (s.emptyRing i).pending = s.pending := ⟨rfl, rfl, rfl, rfl, rfl, rfl, rfl, rfl, rfl, rfl, rfl, rfl, rfl, rfl, rfl⟩

@[simp] theorem State.emptyBlocks_frame (s : State) :
    s.emptyBlocks.clock = s.clock ∧ s.emptyBlocks.heads = s.heads ∧ s.emptyBlocks.session = s.session ∧
    s.emptyBlocks.axles = s.axles ∧ s.emptyBlocks.node = s.node ∧ s.emptyBlocks.rings = s.rings ∧
    s.emptyBlocks.thermal = s.thermal ∧ s.emptyBlocks.group = s.group ∧ s.emptyBlocks.alert = s.alert ∧
    s.emptyBlocks.gate = s.gate ∧ s.emptyBlocks.report = s.report ∧ s.emptyBlocks.port = s.port ∧
    s.emptyBlocks.tables = s.tables ∧ s.emptyBlocks.freeCount = s.freeCount ∧ s.emptyBlocks.pending = s.pending := by simp [State.emptyBlocks]

@[simp] theorem State.setZero_frame (s : State) (i : ChanIdx) (z : ZeroTrack) :
    (s.setZero i z).clock = s.clock ∧ (s.setZero i z).heads = s.heads ∧ (s.setZero i z).session = s.session ∧
    (s.setZero i z).axles = s.axles ∧ (s.setZero i z).node = s.node ∧ (s.setZero i z).rings = s.rings ∧
    (s.setZero i z).thermal = s.thermal ∧ (s.setZero i z).group = s.group ∧ (s.setZero i z).alert = s.alert ∧
    (s.setZero i z).gate = s.gate ∧ (s.setZero i z).report = s.report ∧ (s.setZero i z).port = s.port ∧
    (s.setZero i z).tables = s.tables ∧ (s.setZero i z).freeCount = s.freeCount ∧ (s.setZero i z).pending = s.pending := ⟨rfl, rfl, rfl, rfl, rfl, rfl, rfl, rfl, rfl, rfl, rfl, rfl, rfl, rfl, rfl⟩

@[simp] theorem State.endBlock_frame (s : State) (i : ChanIdx) :
    (s.endBlock i).clock = s.clock ∧ (s.endBlock i).heads = s.heads ∧ (s.endBlock i).session = s.session ∧
    (s.endBlock i).node = s.node ∧ (s.endBlock i).rings = s.rings ∧ (s.endBlock i).thermal = s.thermal ∧
    (s.endBlock i).group = s.group ∧ (s.endBlock i).gate = s.gate ∧ (s.endBlock i).report = s.report ∧
    (s.endBlock i).tables = s.tables ∧ (s.endBlock i).freeCount = s.freeCount ∧ (s.endBlock i).pending = s.pending := by
  and_intros <;> (simp only [State.endBlock]; repeat' split) <;> simp

@[simp] theorem State.offerZero_frame (s : State) (i : ChanIdx) (x : Sample) :
    (s.offerZero i x).clock = s.clock ∧ (s.offerZero i x).heads = s.heads ∧ (s.offerZero i x).session = s.session ∧
    (s.offerZero i x).node = s.node ∧ (s.offerZero i x).rings = s.rings ∧ (s.offerZero i x).thermal = s.thermal ∧
    (s.offerZero i x).group = s.group ∧ (s.offerZero i x).gate = s.gate ∧ (s.offerZero i x).report = s.report ∧
    (s.offerZero i x).tables = s.tables ∧ (s.offerZero i x).freeCount = s.freeCount ∧
    (s.offerZero i x).pending = s.pending := by
  and_intros <;> (simp only [State.offerZero]; repeat' split) <;> simp

@[simp] theorem State.storeSample_frame (s : State) (i : ChanIdx) (t : Time) (r : Half) :
    (s.storeSample i t r).clock = s.clock ∧ (s.storeSample i t r).heads = s.heads ∧
    (s.storeSample i t r).session = s.session ∧ (s.storeSample i t r).node = s.node ∧
    (s.storeSample i t r).thermal = s.thermal ∧ (s.storeSample i t r).group = s.group ∧
    (s.storeSample i t r).gate = s.gate ∧ (s.storeSample i t r).report = s.report ∧
    (s.storeSample i t r).tables = s.tables ∧ (s.storeSample i t r).freeCount = s.freeCount ∧
    (s.storeSample i t r).pending = s.pending := by
  and_intros <;> (simp only [State.storeSample]; repeat' split) <;> simp

@[simp] theorem State.storeRun_frame (s : State) (i : ChanIdx) (t : Time) (l : List Half) :
    (s.storeRun i t l).clock = s.clock ∧ (s.storeRun i t l).heads = s.heads ∧
    (s.storeRun i t l).session = s.session ∧ (s.storeRun i t l).node = s.node ∧
    (s.storeRun i t l).thermal = s.thermal ∧ (s.storeRun i t l).group = s.group ∧ (s.storeRun i t l).gate = s.gate ∧
    (s.storeRun i t l).report = s.report ∧ (s.storeRun i t l).tables = s.tables ∧
    (s.storeRun i t l).freeCount = s.freeCount ∧ (s.storeRun i t l).pending = s.pending := by induction l generalizing s t <;> simp [State.storeRun, *]

@[simp] theorem State.storeChannels_frame (s : State) (k : NodeAddr) (t : Time) (n : Nat) (l : List (List Half)) :
    (s.storeChannels k t n l).clock = s.clock ∧ (s.storeChannels k t n l).heads = s.heads ∧
    (s.storeChannels k t n l).session = s.session ∧ (s.storeChannels k t n l).node = s.node ∧
    (s.storeChannels k t n l).thermal = s.thermal ∧ (s.storeChannels k t n l).group = s.group ∧
    (s.storeChannels k t n l).gate = s.gate ∧ (s.storeChannels k t n l).report = s.report ∧
    (s.storeChannels k t n l).tables = s.tables ∧ (s.storeChannels k t n l).freeCount = s.freeCount ∧
    (s.storeChannels k t n l).pending = s.pending := by induction l generalizing s n with
  | nil => simp [State.storeChannels]
  | cons x l ih => and_intros <;> (simp only [State.storeChannels]; repeat' split) <;> simp [ih]

@[simp] theorem State.storeFrame_frame (s : State) (k : NodeAddr) (t : Time) (l : List (List Half)) :
    (s.storeFrame k t l).clock = s.clock ∧ (s.storeFrame k t l).heads = s.heads ∧
    (s.storeFrame k t l).session = s.session ∧ (s.storeFrame k t l).node = s.node ∧
    (s.storeFrame k t l).thermal = s.thermal ∧ (s.storeFrame k t l).group = s.group ∧
    (s.storeFrame k t l).gate = s.gate ∧ (s.storeFrame k t l).report = s.report ∧
    (s.storeFrame k t l).tables = s.tables ∧ (s.storeFrame k t l).freeCount = s.freeCount ∧
    (s.storeFrame k t l).pending = s.pending := by
  and_intros <;> (unfold State.storeFrame; repeat' split) <;> simp

@[simp] theorem State.forwardFrame_frame (s : State) (k : NodeAddr) (l : List Byte) :
    (s.forwardFrame k l).clock = s.clock ∧ (s.forwardFrame k l).heads = s.heads ∧
    (s.forwardFrame k l).session = s.session ∧ (s.forwardFrame k l).axles = s.axles ∧
    (s.forwardFrame k l).node = s.node ∧ (s.forwardFrame k l).rings = s.rings ∧ (s.forwardFrame k l).load = s.load ∧
    (s.forwardFrame k l).thermal = s.thermal ∧ (s.forwardFrame k l).group = s.group ∧
    (s.forwardFrame k l).alert = s.alert ∧ (s.forwardFrame k l).gate = s.gate ∧
    (s.forwardFrame k l).report = s.report ∧ (s.forwardFrame k l).tables = s.tables ∧
    (s.forwardFrame k l).freeCount = s.freeCount ∧ (s.forwardFrame k l).pending = s.pending := by
  and_intros <;> (simp only [State.forwardFrame]; repeat' split) <;> simp

@[simp] theorem State.raiseAll_frame (s : State) (src : Source) (l : List AlertKind) :
    (s.raiseAll src l).clock = s.clock ∧ (s.raiseAll src l).heads = s.heads ∧
    (s.raiseAll src l).session = s.session ∧ (s.raiseAll src l).node = s.node ∧ (s.raiseAll src l).rings = s.rings ∧
    (s.raiseAll src l).load = s.load ∧ (s.raiseAll src l).thermal = s.thermal ∧ (s.raiseAll src l).group = s.group ∧
    (s.raiseAll src l).gate = s.gate ∧ (s.raiseAll src l).report = s.report ∧ (s.raiseAll src l).tables = s.tables ∧
    (s.raiseAll src l).freeCount = s.freeCount ∧ (s.raiseAll src l).pending = s.pending := by induction l generalizing s <;> simp [State.raiseAll, *]

@[simp] theorem State.raiseAxles_frame (s : State) (th : Threshold) (b : SpeedBands) (l : List AxleRecord) :
    (s.raiseAxles th b l).clock = s.clock ∧ (s.raiseAxles th b l).heads = s.heads ∧
    (s.raiseAxles th b l).session = s.session ∧ (s.raiseAxles th b l).node = s.node ∧
    (s.raiseAxles th b l).rings = s.rings ∧ (s.raiseAxles th b l).load = s.load ∧
    (s.raiseAxles th b l).thermal = s.thermal ∧ (s.raiseAxles th b l).group = s.group ∧
    (s.raiseAxles th b l).gate = s.gate ∧ (s.raiseAxles th b l).report = s.report ∧
    (s.raiseAxles th b l).tables = s.tables ∧ (s.raiseAxles th b l).freeCount = s.freeCount ∧
    (s.raiseAxles th b l).pending = s.pending := by induction l generalizing s <;> simp [State.raiseAxles, *]

@[simp] theorem State.judge_frame (s : State) (v : Vehicle) :
    (s.judge v).clock = s.clock ∧ (s.judge v).heads = s.heads ∧ (s.judge v).session = s.session ∧
    (s.judge v).node = s.node ∧ (s.judge v).rings = s.rings ∧ (s.judge v).load = s.load ∧
    (s.judge v).thermal = s.thermal ∧ (s.judge v).gate = s.gate ∧ (s.judge v).report = s.report ∧
    (s.judge v).tables = s.tables ∧ (s.judge v).freeCount = s.freeCount ∧ (s.judge v).pending = s.pending := by
  and_intros <;> (simp only [State.judge]; repeat' split) <;> simp

@[simp] theorem State.judgeIfReady_frame (s : State) (n : Nat) :
    (s.judgeIfReady n).clock = s.clock ∧ (s.judgeIfReady n).heads = s.heads ∧
    (s.judgeIfReady n).session = s.session ∧ (s.judgeIfReady n).node = s.node ∧ (s.judgeIfReady n).rings = s.rings ∧
    (s.judgeIfReady n).load = s.load ∧ (s.judgeIfReady n).thermal = s.thermal ∧ (s.judgeIfReady n).gate = s.gate ∧
    (s.judgeIfReady n).report = s.report ∧ (s.judgeIfReady n).tables = s.tables ∧
    (s.judgeIfReady n).freeCount = s.freeCount ∧ (s.judgeIfReady n).pending = s.pending := by
  and_intros <;> (unfold State.judgeIfReady; repeat' split) <;> simp

@[simp] theorem State.formVehicle_frame (s : State) (b : Bool) (c p : Option Nat) (n q : Nat) :
    (s.formVehicle b c p n q).clock = s.clock ∧ (s.formVehicle b c p n q).heads = s.heads ∧
    (s.formVehicle b c p n q).session = s.session ∧ (s.formVehicle b c p n q).node = s.node ∧
    (s.formVehicle b c p n q).rings = s.rings ∧ (s.formVehicle b c p n q).load = s.load ∧
    (s.formVehicle b c p n q).thermal = s.thermal ∧ (s.formVehicle b c p n q).gate = s.gate ∧
    (s.formVehicle b c p n q).report = s.report ∧ (s.formVehicle b c p n q).tables = s.tables ∧
    (s.formVehicle b c p n q).freeCount = s.freeCount ∧ (s.formVehicle b c p n q).pending = s.pending := by
  and_intros <;> (simp only [State.formVehicle]; repeat' split) <;> simp

@[simp] theorem State.segment_frame (b : Bool) (n : Nat) (s : State) :
    (State.segment b n s).clock = s.clock ∧ (State.segment b n s).heads = s.heads ∧
    (State.segment b n s).session = s.session ∧ (State.segment b n s).node = s.node ∧
    (State.segment b n s).rings = s.rings ∧ (State.segment b n s).load = s.load ∧
    (State.segment b n s).thermal = s.thermal ∧ (State.segment b n s).gate = s.gate ∧
    (State.segment b n s).report = s.report ∧ (State.segment b n s).tables = s.tables ∧
    (State.segment b n s).freeCount = s.freeCount ∧ (State.segment b n s).pending = s.pending := by induction n generalizing s with
  | zero => simp [State.segment]
  | succ n ih => and_intros <;> (simp only [State.segment]; repeat' split) <;> simp [ih]

@[simp] theorem State.runSegmentation_frame (s : State) (b : Bool) :
    (s.runSegmentation b).clock = s.clock ∧ (s.runSegmentation b).heads = s.heads ∧
    (s.runSegmentation b).session = s.session ∧ (s.runSegmentation b).node = s.node ∧
    (s.runSegmentation b).rings = s.rings ∧ (s.runSegmentation b).load = s.load ∧
    (s.runSegmentation b).thermal = s.thermal ∧ (s.runSegmentation b).gate = s.gate ∧
    (s.runSegmentation b).report = s.report ∧ (s.runSegmentation b).tables = s.tables ∧
    (s.runSegmentation b).freeCount = s.freeCount ∧ (s.runSegmentation b).pending = s.pending := by simp [State.runSegmentation]

@[simp] theorem State.axleMeasured_frame (s : State) (k : Nat) :
    (s.axleMeasured k).clock = s.clock ∧ (s.axleMeasured k).heads = s.heads ∧
    (s.axleMeasured k).session = s.session ∧ (s.axleMeasured k).node = s.node ∧ (s.axleMeasured k).rings = s.rings ∧
    (s.axleMeasured k).load = s.load ∧ (s.axleMeasured k).thermal = s.thermal ∧ (s.axleMeasured k).gate = s.gate ∧
    (s.axleMeasured k).report = s.report ∧ (s.axleMeasured k).tables = s.tables ∧
    (s.axleMeasured k).freeCount = s.freeCount ∧ (s.axleMeasured k).pending = s.pending := by
  and_intros <;> (unfold State.axleMeasured; repeat' split) <;> simp

@[simp] theorem State.judgeRest_frame (l : List Nat) (s : State) :
    (State.judgeRest l s).clock = s.clock ∧ (State.judgeRest l s).heads = s.heads ∧
    (State.judgeRest l s).session = s.session ∧ (State.judgeRest l s).node = s.node ∧
    (State.judgeRest l s).rings = s.rings ∧ (State.judgeRest l s).load = s.load ∧
    (State.judgeRest l s).thermal = s.thermal ∧ (State.judgeRest l s).gate = s.gate ∧
    (State.judgeRest l s).report = s.report ∧ (State.judgeRest l s).tables = s.tables ∧
    (State.judgeRest l s).freeCount = s.freeCount ∧ (State.judgeRest l s).pending = s.pending := by induction l generalizing s with
  | nil => simp [State.judgeRest]
  | cons i l ih => and_intros <;> (simp only [State.judgeRest]; repeat' split) <;> simp [ih]

@[simp] theorem State.closeVehicles_frame (s : State) :
    s.closeVehicles.clock = s.clock ∧ s.closeVehicles.heads = s.heads ∧ s.closeVehicles.session = s.session ∧
    s.closeVehicles.node = s.node ∧ s.closeVehicles.rings = s.rings ∧ s.closeVehicles.load = s.load ∧
    s.closeVehicles.thermal = s.thermal ∧ s.closeVehicles.gate = s.gate ∧ s.closeVehicles.report = s.report ∧
    s.closeVehicles.tables = s.tables ∧ s.closeVehicles.freeCount = s.freeCount ∧ s.closeVehicles.pending = s.pending := by simp [State.closeVehicles]

@[simp] theorem State.testOutlier_frame (s : State) (m : Int) (r : Rail) (x : AxleRecord) :
    (s.testOutlier m r x).clock = s.clock ∧ (s.testOutlier m r x).heads = s.heads ∧
    (s.testOutlier m r x).session = s.session ∧ (s.testOutlier m r x).node = s.node ∧
    (s.testOutlier m r x).rings = s.rings ∧ (s.testOutlier m r x).load = s.load ∧
    (s.testOutlier m r x).thermal = s.thermal ∧ (s.testOutlier m r x).gate = s.gate ∧
    (s.testOutlier m r x).report = s.report ∧ (s.testOutlier m r x).tables = s.tables ∧
    (s.testOutlier m r x).freeCount = s.freeCount ∧ (s.testOutlier m r x).pending = s.pending := by
  and_intros <;> (simp only [State.testOutlier]; repeat' split) <;> simp

@[simp] theorem State.testOutliers_frame (m : Int) (r : Rail) (l : List AxleRecord) (s : State) :
    (State.testOutliers m r l s).clock = s.clock ∧ (State.testOutliers m r l s).heads = s.heads ∧
    (State.testOutliers m r l s).session = s.session ∧ (State.testOutliers m r l s).node = s.node ∧
    (State.testOutliers m r l s).rings = s.rings ∧ (State.testOutliers m r l s).load = s.load ∧
    (State.testOutliers m r l s).thermal = s.thermal ∧ (State.testOutliers m r l s).gate = s.gate ∧
    (State.testOutliers m r l s).report = s.report ∧ (State.testOutliers m r l s).tables = s.tables ∧
    (State.testOutliers m r l s).freeCount = s.freeCount ∧ (State.testOutliers m r l s).pending = s.pending := by induction l generalizing s <;> simp [State.testOutliers, *]

@[simp] theorem State.outlierRail_frame (s : State) (r : Rail) :
    (s.outlierRail r).clock = s.clock ∧ (s.outlierRail r).heads = s.heads ∧ (s.outlierRail r).node = s.node ∧
    (s.outlierRail r).rings = s.rings ∧ (s.outlierRail r).load = s.load ∧ (s.outlierRail r).thermal = s.thermal ∧
    (s.outlierRail r).gate = s.gate ∧ (s.outlierRail r).report = s.report ∧ (s.outlierRail r).tables = s.tables ∧
    (s.outlierRail r).freeCount = s.freeCount ∧ (s.outlierRail r).pending = s.pending := by
  and_intros <;> (simp only [State.outlierRail]; repeat' split) <;> simp

@[simp] theorem State.closeOutliers_frame (s : State) :
    s.closeOutliers.clock = s.clock ∧ s.closeOutliers.heads = s.heads ∧ s.closeOutliers.node = s.node ∧
    s.closeOutliers.rings = s.rings ∧ s.closeOutliers.load = s.load ∧ s.closeOutliers.thermal = s.thermal ∧
    s.closeOutliers.gate = s.gate ∧ s.closeOutliers.report = s.report ∧ s.closeOutliers.tables = s.tables ∧
    s.closeOutliers.freeCount = s.freeCount ∧ s.closeOutliers.pending = s.pending := by simp [State.closeOutliers]

@[simp] theorem State.updLoadPart_frame (s : State) (k : Nat) (f : LoadPart → LoadPart) :
    (s.updLoadPart k f).clock = s.clock ∧ (s.updLoadPart k f).heads = s.heads ∧
    (s.updLoadPart k f).session = s.session ∧ (s.updLoadPart k f).axles = s.axles ∧
    (s.updLoadPart k f).node = s.node ∧ (s.updLoadPart k f).rings = s.rings ∧
    (s.updLoadPart k f).thermal = s.thermal ∧ (s.updLoadPart k f).group = s.group ∧
    (s.updLoadPart k f).alert = s.alert ∧ (s.updLoadPart k f).gate = s.gate ∧ (s.updLoadPart k f).report = s.report ∧
    (s.updLoadPart k f).port = s.port ∧ (s.updLoadPart k f).tables = s.tables ∧
    (s.updLoadPart k f).freeCount = s.freeCount ∧ (s.updLoadPart k f).pending = s.pending := ⟨rfl, rfl, rfl, rfl, rfl, rfl, rfl, rfl, rfl, rfl, rfl, rfl, rfl, rfl, rfl⟩

@[simp] theorem State.updBearingPart_frame (s : State) (k : Nat) (f : BearingPart → BearingPart) :
    (s.updBearingPart k f).clock = s.clock ∧ (s.updBearingPart k f).heads = s.heads ∧
    (s.updBearingPart k f).session = s.session ∧ (s.updBearingPart k f).axles = s.axles ∧
    (s.updBearingPart k f).node = s.node ∧ (s.updBearingPart k f).rings = s.rings ∧
    (s.updBearingPart k f).load = s.load ∧ (s.updBearingPart k f).group = s.group ∧
    (s.updBearingPart k f).alert = s.alert ∧ (s.updBearingPart k f).gate = s.gate ∧
    (s.updBearingPart k f).report = s.report ∧ (s.updBearingPart k f).port = s.port ∧
    (s.updBearingPart k f).tables = s.tables ∧ (s.updBearingPart k f).freeCount = s.freeCount ∧
    (s.updBearingPart k f).pending = s.pending := ⟨rfl, rfl, rfl, rfl, rfl, rfl, rfl, rfl, rfl, rfl, rfl, rfl, rfl, rfl, rfl⟩

@[simp] theorem State.partDone_frame (s : State) (k : Nat) :
    (s.partDone k).clock = s.clock ∧ (s.partDone k).heads = s.heads ∧ (s.partDone k).session = s.session ∧
    (s.partDone k).node = s.node ∧ (s.partDone k).rings = s.rings ∧ (s.partDone k).load = s.load ∧
    (s.partDone k).thermal = s.thermal ∧ (s.partDone k).gate = s.gate ∧ (s.partDone k).report = s.report ∧
    (s.partDone k).tables = s.tables ∧ (s.partDone k).freeCount = s.freeCount ∧ (s.partDone k).pending = s.pending := by
  and_intros <;> (simp only [State.partDone]; repeat' split) <;> simp

@[simp] theorem State.completeLoad_frame (s : State) (p : LoadPart) :
    (s.completeLoad p).clock = s.clock ∧ (s.completeLoad p).heads = s.heads ∧
    (s.completeLoad p).session = s.session ∧ (s.completeLoad p).node = s.node ∧ (s.completeLoad p).rings = s.rings ∧
    (s.completeLoad p).thermal = s.thermal ∧ (s.completeLoad p).gate = s.gate ∧
    (s.completeLoad p).report = s.report ∧ (s.completeLoad p).tables = s.tables ∧
    (s.completeLoad p).freeCount = s.freeCount ∧ (s.completeLoad p).pending = s.pending := by simp [State.completeLoad]

@[simp] theorem State.completeBearing_frame (s : State) (p : BearingPart) :
    (s.completeBearing p).clock = s.clock ∧ (s.completeBearing p).heads = s.heads ∧
    (s.completeBearing p).session = s.session ∧ (s.completeBearing p).node = s.node ∧
    (s.completeBearing p).rings = s.rings ∧ (s.completeBearing p).load = s.load ∧
    (s.completeBearing p).gate = s.gate ∧ (s.completeBearing p).report = s.report ∧
    (s.completeBearing p).tables = s.tables ∧ (s.completeBearing p).freeCount = s.freeCount ∧
    (s.completeBearing p).pending = s.pending := by simp [State.completeBearing]

@[simp] theorem State.writeCamera_frame (s : State) (q : Half) (k : Nat) (o : CameraOutcome) :
    (s.writeCamera q k o).clock = s.clock ∧ (s.writeCamera q k o).heads = s.heads ∧
    (s.writeCamera q k o).session = s.session ∧ (s.writeCamera q k o).node = s.node ∧
    (s.writeCamera q k o).rings = s.rings ∧ (s.writeCamera q k o).load = s.load ∧
    (s.writeCamera q k o).thermal = s.thermal ∧ (s.writeCamera q k o).group = s.group ∧
    (s.writeCamera q k o).alert = s.alert ∧ (s.writeCamera q k o).gate = s.gate ∧
    (s.writeCamera q k o).report = s.report ∧ (s.writeCamera q k o).port = s.port ∧
    (s.writeCamera q k o).tables = s.tables ∧ (s.writeCamera q k o).freeCount = s.freeCount ∧
    (s.writeCamera q k o).pending = s.pending := by
  and_intros <;> (unfold State.writeCamera; repeat' split) <;> simp

@[simp] theorem State.startPulse_frame (s : State) (p : CameraPulse) :
    (s.startPulse p).clock = s.clock ∧ (s.startPulse p).heads = s.heads ∧ (s.startPulse p).session = s.session ∧
    (s.startPulse p).node = s.node ∧ (s.startPulse p).rings = s.rings ∧ (s.startPulse p).load = s.load ∧
    (s.startPulse p).thermal = s.thermal ∧ (s.startPulse p).group = s.group ∧ (s.startPulse p).alert = s.alert ∧
    (s.startPulse p).report = s.report ∧ (s.startPulse p).port = s.port ∧ (s.startPulse p).tables = s.tables ∧
    (s.startPulse p).freeCount = s.freeCount ∧ (s.startPulse p).pending = s.pending := by simp [State.startPulse]

@[simp] theorem State.placePulse_frame (s : State) (p : CameraPulse) :
    (s.placePulse p).clock = s.clock ∧ (s.placePulse p).heads = s.heads ∧ (s.placePulse p).session = s.session ∧
    (s.placePulse p).node = s.node ∧ (s.placePulse p).rings = s.rings ∧ (s.placePulse p).load = s.load ∧
    (s.placePulse p).thermal = s.thermal ∧ (s.placePulse p).group = s.group ∧ (s.placePulse p).alert = s.alert ∧
    (s.placePulse p).report = s.report ∧ (s.placePulse p).port = s.port ∧ (s.placePulse p).tables = s.tables ∧
    (s.placePulse p).freeCount = s.freeCount ∧ (s.placePulse p).pending = s.pending := by
  and_intros <;> (unfold State.placePulse; repeat' split) <;> simp

@[simp] theorem State.scheduleCamera_frame (s : State) (k : Nat) (c : Crossing) :
    (s.scheduleCamera k c).clock = s.clock ∧ (s.scheduleCamera k c).heads = s.heads ∧
    (s.scheduleCamera k c).session = s.session ∧ (s.scheduleCamera k c).node = s.node ∧
    (s.scheduleCamera k c).rings = s.rings ∧ (s.scheduleCamera k c).load = s.load ∧
    (s.scheduleCamera k c).thermal = s.thermal ∧ (s.scheduleCamera k c).group = s.group ∧
    (s.scheduleCamera k c).alert = s.alert ∧ (s.scheduleCamera k c).report = s.report ∧
    (s.scheduleCamera k c).port = s.port ∧ (s.scheduleCamera k c).tables = s.tables ∧
    (s.scheduleCamera k c).freeCount = s.freeCount ∧ (s.scheduleCamera k c).pending = s.pending := by
  and_intros <;> (unfold State.scheduleCamera; repeat' split) <;> simp

@[simp] theorem State.countMismatch_frame (s : State) :
    s.countMismatch.clock = s.clock ∧ s.countMismatch.heads = s.heads ∧ s.countMismatch.session = s.session ∧
    s.countMismatch.node = s.node ∧ s.countMismatch.rings = s.rings ∧ s.countMismatch.load = s.load ∧
    s.countMismatch.thermal = s.thermal ∧ s.countMismatch.group = s.group ∧ s.countMismatch.alert = s.alert ∧
    s.countMismatch.gate = s.gate ∧ s.countMismatch.report = s.report ∧ s.countMismatch.port = s.port ∧
    s.countMismatch.tables = s.tables ∧ s.countMismatch.freeCount = s.freeCount ∧ s.countMismatch.pending = s.pending := ⟨rfl, rfl, rfl, rfl, rfl, rfl, rfl, rfl, rfl, rfl, rfl, rfl, rfl, rfl, rfl⟩

@[simp] theorem State.beginParts_frame (s : State) (a : AxleData) :
    (s.beginParts a).clock = s.clock ∧ (s.beginParts a).heads = s.heads ∧ (s.beginParts a).session = s.session ∧
    (s.beginParts a).axles = s.axles ∧ (s.beginParts a).node = s.node ∧ (s.beginParts a).rings = s.rings ∧
    (s.beginParts a).group = s.group ∧ (s.beginParts a).alert = s.alert ∧ (s.beginParts a).gate = s.gate ∧
    (s.beginParts a).report = s.report ∧ (s.beginParts a).port = s.port ∧ (s.beginParts a).tables = s.tables ∧
    (s.beginParts a).freeCount = s.freeCount ∧ (s.beginParts a).pending = s.pending := by
  and_intros <;> (unfold State.beginParts; repeat' split) <;> simp

@[simp] theorem State.startMeasurement_frame (s : State) (r : AxleRecord) (x : Crossing) :
    (s.startMeasurement r x).clock = s.clock ∧ (s.startMeasurement r x).heads = s.heads ∧
    (s.startMeasurement r x).session = s.session ∧ (s.startMeasurement r x).node = s.node ∧
    (s.startMeasurement r x).rings = s.rings ∧ (s.startMeasurement r x).alert = s.alert ∧
    (s.startMeasurement r x).gate = s.gate ∧ (s.startMeasurement r x).report = s.report ∧
    (s.startMeasurement r x).port = s.port ∧ (s.startMeasurement r x).tables = s.tables ∧
    (s.startMeasurement r x).freeCount = s.freeCount ∧ (s.startMeasurement r x).pending = s.pending := by simp [State.startMeasurement]

@[simp] theorem State.newOrdinal_frame (s : State) (k : Nat) (x : Crossing) :
    (s.newOrdinal k x).clock = s.clock ∧ (s.newOrdinal k x).heads = s.heads ∧
    (s.newOrdinal k x).session = s.session ∧ (s.newOrdinal k x).node = s.node ∧ (s.newOrdinal k x).rings = s.rings ∧
    (s.newOrdinal k x).load = s.load ∧ (s.newOrdinal k x).thermal = s.thermal ∧ (s.newOrdinal k x).group = s.group ∧
    (s.newOrdinal k x).gate = s.gate ∧ (s.newOrdinal k x).report = s.report ∧ (s.newOrdinal k x).tables = s.tables ∧
    (s.newOrdinal k x).freeCount = s.freeCount ∧ (s.newOrdinal k x).pending = s.pending := by
  and_intros <;> (unfold State.newOrdinal; repeat' split) <;> simp

@[simp] theorem State.entryRise_frame (s : State) (k : Nat) (x : Crossing) :
    (s.entryRise k x).clock = s.clock ∧ (s.entryRise k x).heads = s.heads ∧ (s.entryRise k x).session = s.session ∧
    (s.entryRise k x).node = s.node ∧ (s.entryRise k x).rings = s.rings ∧ (s.entryRise k x).load = s.load ∧
    (s.entryRise k x).thermal = s.thermal ∧ (s.entryRise k x).group = s.group ∧ (s.entryRise k x).report = s.report ∧
    (s.entryRise k x).tables = s.tables ∧ (s.entryRise k x).freeCount = s.freeCount ∧
    (s.entryRise k x).pending = s.pending := by
  and_intros <;> (unfold State.entryRise; repeat' split) <;> simp

@[simp] theorem State.entryFall_frame (s : State) (k : Nat) :
    (s.entryFall k).clock = s.clock ∧ (s.entryFall k).heads = s.heads ∧ (s.entryFall k).session = s.session ∧
    (s.entryFall k).node = s.node ∧ (s.entryFall k).rings = s.rings ∧ (s.entryFall k).load = s.load ∧
    (s.entryFall k).thermal = s.thermal ∧ (s.entryFall k).group = s.group ∧ (s.entryFall k).alert = s.alert ∧
    (s.entryFall k).gate = s.gate ∧ (s.entryFall k).report = s.report ∧ (s.entryFall k).port = s.port ∧
    (s.entryFall k).tables = s.tables ∧ (s.entryFall k).freeCount = s.freeCount ∧ (s.entryFall k).pending = s.pending := by
  and_intros <;> (unfold State.entryFall; repeat' split) <;> simp

@[simp] theorem State.exitRise_frame (s : State) (k : Nat) (x : Crossing) :
    (s.exitRise k x).clock = s.clock ∧ (s.exitRise k x).heads = s.heads ∧ (s.exitRise k x).session = s.session ∧
    (s.exitRise k x).node = s.node ∧ (s.exitRise k x).rings = s.rings ∧ (s.exitRise k x).alert = s.alert ∧
    (s.exitRise k x).gate = s.gate ∧ (s.exitRise k x).report = s.report ∧ (s.exitRise k x).port = s.port ∧
    (s.exitRise k x).tables = s.tables ∧ (s.exitRise k x).freeCount = s.freeCount ∧
    (s.exitRise k x).pending = s.pending := by
  and_intros <;> (unfold State.exitRise; repeat' split) <;> simp

@[simp] theorem State.exitFall_frame (s : State) (k : Nat) :
    (s.exitFall k).clock = s.clock ∧ (s.exitFall k).heads = s.heads ∧ (s.exitFall k).session = s.session ∧
    (s.exitFall k).node = s.node ∧ (s.exitFall k).rings = s.rings ∧ (s.exitFall k).load = s.load ∧
    (s.exitFall k).thermal = s.thermal ∧ (s.exitFall k).group = s.group ∧ (s.exitFall k).alert = s.alert ∧
    (s.exitFall k).gate = s.gate ∧ (s.exitFall k).report = s.report ∧ (s.exitFall k).port = s.port ∧
    (s.exitFall k).tables = s.tables ∧ (s.exitFall k).freeCount = s.freeCount ∧ (s.exitFall k).pending = s.pending := by
  and_intros <;> (unfold State.exitFall; repeat' split) <;> simp

@[simp] theorem State.flagStopped_frame (s : State) :
    s.flagStopped.clock = s.clock ∧ s.flagStopped.heads = s.heads ∧ s.flagStopped.session = s.session ∧
    s.flagStopped.node = s.node ∧ s.flagStopped.rings = s.rings ∧ s.flagStopped.load = s.load ∧
    s.flagStopped.thermal = s.thermal ∧ s.flagStopped.group = s.group ∧ s.flagStopped.alert = s.alert ∧
    s.flagStopped.gate = s.gate ∧ s.flagStopped.report = s.report ∧ s.flagStopped.port = s.port ∧
    s.flagStopped.tables = s.tables ∧ s.flagStopped.freeCount = s.freeCount ∧ s.flagStopped.pending = s.pending := ⟨rfl, rfl, rfl, rfl, rfl, rfl, rfl, rfl, rfl, rfl, rfl, rfl, rfl, rfl, rfl⟩

@[simp] theorem State.enterIdle_frame (s : State) :
    s.enterIdle.clock = s.clock ∧ s.enterIdle.heads = s.heads ∧ s.enterIdle.axles = s.axles ∧
    s.enterIdle.node = s.node ∧ s.enterIdle.rings = s.rings ∧ s.enterIdle.load = s.load ∧
    s.enterIdle.thermal = s.thermal ∧ s.enterIdle.group = s.group ∧ s.enterIdle.alert = s.alert ∧
    s.enterIdle.gate = s.gate ∧ s.enterIdle.report = s.report ∧ s.enterIdle.port = s.port ∧
    s.enterIdle.tables = s.tables ∧ s.enterIdle.freeCount = s.freeCount ∧ s.enterIdle.pending = s.pending := ⟨rfl, rfl, rfl, rfl, rfl, rfl, rfl, rfl, rfl, rfl, rfl, rfl, rfl, rfl, rfl⟩

@[simp] theorem State.sendDown_frame (s : State) (f : DownFrame) :
    (s.sendDown f).clock = s.clock ∧ (s.sendDown f).heads = s.heads ∧ (s.sendDown f).session = s.session ∧
    (s.sendDown f).axles = s.axles ∧ (s.sendDown f).rings = s.rings ∧ (s.sendDown f).load = s.load ∧
    (s.sendDown f).thermal = s.thermal ∧ (s.sendDown f).group = s.group ∧ (s.sendDown f).alert = s.alert ∧
    (s.sendDown f).gate = s.gate ∧ (s.sendDown f).report = s.report ∧ (s.sendDown f).port = s.port ∧
    (s.sendDown f).tables = s.tables ∧ (s.sendDown f).freeCount = s.freeCount ∧ (s.sendDown f).pending = s.pending := ⟨rfl, rfl, rfl, rfl, rfl, rfl, rfl, rfl, rfl, rfl, rfl, rfl, rfl, rfl, rfl⟩

@[simp] theorem State.thermalOnline_frame (s : State) :
    s.thermalOnline.clock = s.clock ∧ s.thermalOnline.heads = s.heads ∧ s.thermalOnline.axles = s.axles ∧
    s.thermalOnline.node = s.node ∧ s.thermalOnline.rings = s.rings ∧ s.thermalOnline.load = s.load ∧
    s.thermalOnline.thermal = s.thermal ∧ s.thermalOnline.group = s.group ∧ s.thermalOnline.alert = s.alert ∧
    s.thermalOnline.gate = s.gate ∧ s.thermalOnline.report = s.report ∧ s.thermalOnline.port = s.port ∧
    s.thermalOnline.tables = s.tables ∧ s.thermalOnline.freeCount = s.freeCount ∧ s.thermalOnline.pending = s.pending := by
  and_intros <;> (unfold State.thermalOnline; repeat' split) <;> simp

@[simp] theorem State.haltIfAsleep_frame (s : State) (k : NodeAddr) :
    (s.haltIfAsleep k).clock = s.clock ∧ (s.haltIfAsleep k).heads = s.heads ∧
    (s.haltIfAsleep k).session = s.session ∧ (s.haltIfAsleep k).axles = s.axles ∧
    (s.haltIfAsleep k).rings = s.rings ∧ (s.haltIfAsleep k).load = s.load ∧ (s.haltIfAsleep k).thermal = s.thermal ∧
    (s.haltIfAsleep k).group = s.group ∧ (s.haltIfAsleep k).alert = s.alert ∧ (s.haltIfAsleep k).gate = s.gate ∧
    (s.haltIfAsleep k).report = s.report ∧ (s.haltIfAsleep k).port = s.port ∧ (s.haltIfAsleep k).tables = s.tables ∧
    (s.haltIfAsleep k).freeCount = s.freeCount ∧ (s.haltIfAsleep k).pending = s.pending := by
  and_intros <;> (unfold State.haltIfAsleep; repeat' split) <;> simp

@[simp] theorem State.becomeOnline_frame (s : State) (k : NodeAddr) (e : NodeEntry) :
    (s.becomeOnline k e).clock = s.clock ∧ (s.becomeOnline k e).heads = s.heads ∧
    (s.becomeOnline k e).axles = s.axles ∧ (s.becomeOnline k e).rings = s.rings ∧
    (s.becomeOnline k e).load = s.load ∧ (s.becomeOnline k e).thermal = s.thermal ∧
    (s.becomeOnline k e).group = s.group ∧ (s.becomeOnline k e).alert = s.alert ∧
    (s.becomeOnline k e).gate = s.gate ∧ (s.becomeOnline k e).report = s.report ∧
    (s.becomeOnline k e).port = s.port ∧ (s.becomeOnline k e).tables = s.tables ∧
    (s.becomeOnline k e).freeCount = s.freeCount ∧ (s.becomeOnline k e).pending = s.pending := by
  and_intros <;> (simp only [State.becomeOnline]; repeat' split) <;> simp

@[simp] theorem State.frameFrom_frame (s : State) (k : NodeAddr) (b : Bool) :
    (s.frameFrom k b).clock = s.clock ∧ (s.frameFrom k b).heads = s.heads ∧ (s.frameFrom k b).axles = s.axles ∧
    (s.frameFrom k b).rings = s.rings ∧ (s.frameFrom k b).load = s.load ∧ (s.frameFrom k b).thermal = s.thermal ∧
    (s.frameFrom k b).group = s.group ∧ (s.frameFrom k b).alert = s.alert ∧ (s.frameFrom k b).gate = s.gate ∧
    (s.frameFrom k b).report = s.report ∧ (s.frameFrom k b).port = s.port ∧ (s.frameFrom k b).tables = s.tables ∧
    (s.frameFrom k b).freeCount = s.freeCount ∧ (s.frameFrom k b).pending = s.pending := by
  and_intros <;> (simp only [State.frameFrom]; repeat' split) <;> simp

@[simp] theorem State.touchNode_frame (s : State) (k : NodeAddr) (b : Bool) :
    (s.touchNode k b).clock = s.clock ∧ (s.touchNode k b).heads = s.heads ∧ (s.touchNode k b).session = s.session ∧
    (s.touchNode k b).axles = s.axles ∧ (s.touchNode k b).rings = s.rings ∧ (s.touchNode k b).load = s.load ∧
    (s.touchNode k b).thermal = s.thermal ∧ (s.touchNode k b).group = s.group ∧ (s.touchNode k b).alert = s.alert ∧
    (s.touchNode k b).gate = s.gate ∧ (s.touchNode k b).report = s.report ∧ (s.touchNode k b).port = s.port ∧
    (s.touchNode k b).tables = s.tables ∧ (s.touchNode k b).freeCount = s.freeCount ∧
    (s.touchNode k b).pending = s.pending := by
  and_intros <;> (simp only [State.touchNode]; repeat' split) <;> simp

@[simp] theorem State.resolveIdent_frame (s : State) (k : NodeAddr) (t : NodeType) (l : List Role) :
    (s.resolveIdent k t l).clock = s.clock ∧ (s.resolveIdent k t l).heads = s.heads ∧
    (s.resolveIdent k t l).axles = s.axles ∧ (s.resolveIdent k t l).rings = s.rings ∧
    (s.resolveIdent k t l).load = s.load ∧ (s.resolveIdent k t l).thermal = s.thermal ∧
    (s.resolveIdent k t l).group = s.group ∧ (s.resolveIdent k t l).alert = s.alert ∧
    (s.resolveIdent k t l).gate = s.gate ∧ (s.resolveIdent k t l).report = s.report ∧
    (s.resolveIdent k t l).port = s.port ∧ (s.resolveIdent k t l).tables = s.tables ∧
    (s.resolveIdent k t l).freeCount = s.freeCount ∧ (s.resolveIdent k t l).pending = s.pending := by simp [State.resolveIdent]

@[simp] theorem State.applyStatus_frame (s : State) (k : NodeAddr) (l : List FaultEntry) :
    (s.applyStatus k l).clock = s.clock ∧ (s.applyStatus k l).heads = s.heads ∧
    (s.applyStatus k l).session = s.session ∧ (s.applyStatus k l).rings = s.rings ∧
    (s.applyStatus k l).load = s.load ∧ (s.applyStatus k l).thermal = s.thermal ∧
    (s.applyStatus k l).group = s.group ∧ (s.applyStatus k l).gate = s.gate ∧ (s.applyStatus k l).report = s.report ∧
    (s.applyStatus k l).tables = s.tables ∧ (s.applyStatus k l).freeCount = s.freeCount ∧
    (s.applyStatus k l).pending = s.pending := by
  and_intros <;> (simp only [State.applyStatus]; repeat' split) <;> simp

@[simp] theorem State.endTransaction_frame (s : State) (t : Transaction) (o : TxOutcome) :
    (s.endTransaction t o).clock = s.clock ∧ (s.endTransaction t o).heads = s.heads ∧
    (s.endTransaction t o).session = s.session ∧ (s.endTransaction t o).axles = s.axles ∧
    (s.endTransaction t o).rings = s.rings ∧ (s.endTransaction t o).load = s.load ∧
    (s.endTransaction t o).thermal = s.thermal ∧ (s.endTransaction t o).group = s.group ∧
    (s.endTransaction t o).alert = s.alert ∧ (s.endTransaction t o).gate = s.gate ∧
    (s.endTransaction t o).report = s.report ∧ (s.endTransaction t o).tables = s.tables ∧
    (s.endTransaction t o).freeCount = s.freeCount ∧ (s.endTransaction t o).pending = s.pending := by simp [State.endTransaction]

@[simp] theorem State.sendItem_frame (s : State) (t : Transaction) :
    (s.sendItem t).clock = s.clock ∧ (s.sendItem t).heads = s.heads ∧ (s.sendItem t).session = s.session ∧
    (s.sendItem t).axles = s.axles ∧ (s.sendItem t).rings = s.rings ∧ (s.sendItem t).load = s.load ∧
    (s.sendItem t).thermal = s.thermal ∧ (s.sendItem t).group = s.group ∧ (s.sendItem t).alert = s.alert ∧
    (s.sendItem t).gate = s.gate ∧ (s.sendItem t).report = s.report ∧ (s.sendItem t).port = s.port ∧
    (s.sendItem t).tables = s.tables ∧ (s.sendItem t).freeCount = s.freeCount ∧ (s.sendItem t).pending = s.pending := by
  and_intros <;> (unfold State.sendItem; repeat' split) <;> simp

@[simp] theorem State.scanFrom_frame (s : State) (t : Transaction) (a : Nat) :
    (s.scanFrom t a).clock = s.clock ∧ (s.scanFrom t a).heads = s.heads ∧ (s.scanFrom t a).session = s.session ∧
    (s.scanFrom t a).axles = s.axles ∧ (s.scanFrom t a).rings = s.rings ∧ (s.scanFrom t a).load = s.load ∧
    (s.scanFrom t a).thermal = s.thermal ∧ (s.scanFrom t a).group = s.group ∧ (s.scanFrom t a).alert = s.alert ∧
    (s.scanFrom t a).gate = s.gate ∧ (s.scanFrom t a).report = s.report ∧ (s.scanFrom t a).tables = s.tables ∧
    (s.scanFrom t a).freeCount = s.freeCount ∧ (s.scanFrom t a).pending = s.pending := by
  and_intros <;> (unfold State.scanFrom; repeat' split) <;> simp

@[simp] theorem State.resolveItem_frame (s : State) (t : Transaction) (r : ItemResult) :
    (s.resolveItem t r).clock = s.clock ∧ (s.resolveItem t r).heads = s.heads ∧
    (s.resolveItem t r).session = s.session ∧ (s.resolveItem t r).axles = s.axles ∧
    (s.resolveItem t r).rings = s.rings ∧ (s.resolveItem t r).load = s.load ∧
    (s.resolveItem t r).thermal = s.thermal ∧ (s.resolveItem t r).group = s.group ∧
    (s.resolveItem t r).alert = s.alert ∧ (s.resolveItem t r).gate = s.gate ∧ (s.resolveItem t r).report = s.report ∧
    (s.resolveItem t r).tables = s.tables ∧ (s.resolveItem t r).freeCount = s.freeCount ∧
    (s.resolveItem t r).pending = s.pending := by
  and_intros <;> (simp only [State.resolveItem]; repeat' split) <;> simp

@[simp] theorem State.openEndsTransaction_frame (s : State) :
    s.openEndsTransaction.clock = s.clock ∧ s.openEndsTransaction.heads = s.heads ∧
    s.openEndsTransaction.session = s.session ∧ s.openEndsTransaction.axles = s.axles ∧
    s.openEndsTransaction.rings = s.rings ∧ s.openEndsTransaction.load = s.load ∧
    s.openEndsTransaction.thermal = s.thermal ∧ s.openEndsTransaction.group = s.group ∧
    s.openEndsTransaction.alert = s.alert ∧ s.openEndsTransaction.gate = s.gate ∧
    s.openEndsTransaction.report = s.report ∧ s.openEndsTransaction.tables = s.tables ∧
    s.openEndsTransaction.freeCount = s.freeCount ∧ s.openEndsTransaction.pending = s.pending := by
  and_intros <;> (unfold State.openEndsTransaction; repeat' split) <;> simp

@[simp] theorem State.requestSent_frame (s : State) :
    s.requestSent.clock = s.clock ∧ s.requestSent.heads = s.heads ∧ s.requestSent.session = s.session ∧
    s.requestSent.axles = s.axles ∧ s.requestSent.rings = s.rings ∧ s.requestSent.load = s.load ∧
    s.requestSent.thermal = s.thermal ∧ s.requestSent.group = s.group ∧ s.requestSent.alert = s.alert ∧
    s.requestSent.gate = s.gate ∧ s.requestSent.report = s.report ∧ s.requestSent.port = s.port ∧
    s.requestSent.tables = s.tables ∧ s.requestSent.freeCount = s.freeCount ∧ s.requestSent.pending = s.pending :=
    ⟨rfl, rfl, rfl, rfl, rfl, rfl, rfl, rfl, rfl, rfl, rfl, rfl, rfl, rfl, rfl⟩

@[simp] theorem State.frameEnded_frame (s : State) :
    s.frameEnded.clock = s.clock ∧ s.frameEnded.heads = s.heads ∧ s.frameEnded.session = s.session ∧
    s.frameEnded.axles = s.axles ∧ s.frameEnded.rings = s.rings ∧ s.frameEnded.load = s.load ∧
    s.frameEnded.thermal = s.thermal ∧ s.frameEnded.group = s.group ∧ s.frameEnded.alert = s.alert ∧
    s.frameEnded.gate = s.gate ∧ s.frameEnded.report = s.report ∧ s.frameEnded.port = s.port ∧
    s.frameEnded.tables = s.tables ∧ s.frameEnded.freeCount = s.freeCount ∧ s.frameEnded.pending = s.pending :=
    ⟨rfl, rfl, rfl, rfl, rfl, rfl, rfl, rfl, rfl, rfl, rfl, rfl, rfl, rfl, rfl⟩

@[simp] theorem State.openSession_frame (s : State) (st : SessionState) (b : Bool) :
    (s.openSession st b).clock = s.clock ∧ (s.openSession st b).rings = s.rings ∧
    (s.openSession st b).gate = s.gate ∧ (s.openSession st b).report = s.report ∧
    (s.openSession st b).tables = s.tables ∧ (s.openSession st b).freeCount = s.freeCount ∧
    (s.openSession st b).pending = s.pending := by simp [State.openSession]

@[simp] theorem State.fixEntry_frame (s : State) (x : Crossing) :
    (s.fixEntry x).clock = s.clock ∧ (s.fixEntry x).heads = s.heads ∧ (s.fixEntry x).axles = s.axles ∧
    (s.fixEntry x).node = s.node ∧ (s.fixEntry x).rings = s.rings ∧ (s.fixEntry x).load = s.load ∧
    (s.fixEntry x).thermal = s.thermal ∧ (s.fixEntry x).group = s.group ∧ (s.fixEntry x).alert = s.alert ∧
    (s.fixEntry x).gate = s.gate ∧ (s.fixEntry x).report = s.report ∧ (s.fixEntry x).port = s.port ∧
    (s.fixEntry x).tables = s.tables ∧ (s.fixEntry x).freeCount = s.freeCount ∧ (s.fixEntry x).pending = s.pending := ⟨rfl, rfl, rfl, rfl, rfl, rfl, rfl, rfl, rfl, rfl, rfl, rfl, rfl, rfl, rfl⟩

@[simp] theorem State.noteReversal_frame (s : State) (x : Crossing) :
    (s.noteReversal x).clock = s.clock ∧ (s.noteReversal x).heads = s.heads ∧ (s.noteReversal x).node = s.node ∧
    (s.noteReversal x).rings = s.rings ∧ (s.noteReversal x).load = s.load ∧ (s.noteReversal x).thermal = s.thermal ∧
    (s.noteReversal x).group = s.group ∧ (s.noteReversal x).gate = s.gate ∧ (s.noteReversal x).report = s.report ∧
    (s.noteReversal x).tables = s.tables ∧ (s.noteReversal x).freeCount = s.freeCount ∧
    (s.noteReversal x).pending = s.pending := by
  and_intros <;> (unfold State.noteReversal; repeat' split) <;> simp

@[simp] theorem State.setCount_frame (s : State) (h : Head) (n : Nat) :
    (s.setCount h n).clock = s.clock ∧ (s.setCount h n).session = s.session ∧ (s.setCount h n).axles = s.axles ∧
    (s.setCount h n).node = s.node ∧ (s.setCount h n).rings = s.rings ∧ (s.setCount h n).load = s.load ∧
    (s.setCount h n).thermal = s.thermal ∧ (s.setCount h n).group = s.group ∧ (s.setCount h n).alert = s.alert ∧
    (s.setCount h n).gate = s.gate ∧ (s.setCount h n).report = s.report ∧ (s.setCount h n).port = s.port ∧
    (s.setCount h n).tables = s.tables ∧ (s.setCount h n).freeCount = s.freeCount ∧
    (s.setCount h n).pending = s.pending := ⟨rfl, rfl, rfl, rfl, rfl, rfl, rfl, rfl, rfl, rfl, rfl, rfl, rfl, rfl, rfl⟩

@[simp] theorem State.countCrossing_frame (s : State) (x : Crossing) (b : Bool) :
    (s.countCrossing x b).clock = s.clock ∧ (s.countCrossing x b).session = s.session ∧
    (s.countCrossing x b).node = s.node ∧ (s.countCrossing x b).rings = s.rings ∧
    (s.countCrossing x b).report = s.report ∧ (s.countCrossing x b).tables = s.tables ∧
    (s.countCrossing x b).freeCount = s.freeCount ∧ (s.countCrossing x b).pending = s.pending := by
  and_intros <;> (simp only [State.countCrossing]; repeat' split) <;> simp

@[simp] theorem State.enterInTrain_frame (s : State) :
    s.enterInTrain.clock = s.clock ∧ s.enterInTrain.heads = s.heads ∧ s.enterInTrain.axles = s.axles ∧
    s.enterInTrain.node = s.node ∧ s.enterInTrain.rings = s.rings ∧ s.enterInTrain.load = s.load ∧
    s.enterInTrain.thermal = s.thermal ∧ s.enterInTrain.group = s.group ∧ s.enterInTrain.alert = s.alert ∧
    s.enterInTrain.gate = s.gate ∧ s.enterInTrain.report = s.report ∧ s.enterInTrain.port = s.port ∧
    s.enterInTrain.tables = s.tables ∧ s.enterInTrain.freeCount = s.freeCount ∧ s.enterInTrain.pending = s.pending :=
    ⟨rfl, rfl, rfl, rfl, rfl, rfl, rfl, rfl, rfl, rfl, rfl, rfl, rfl, rfl, rfl⟩

@[simp] theorem State.requestExitPulse_frame (s : State) :
    s.requestExitPulse.clock = s.clock ∧ s.requestExitPulse.heads = s.heads ∧
    s.requestExitPulse.session = s.session ∧ s.requestExitPulse.axles = s.axles ∧ s.requestExitPulse.node = s.node ∧
    s.requestExitPulse.rings = s.rings ∧ s.requestExitPulse.load = s.load ∧ s.requestExitPulse.thermal = s.thermal ∧
    s.requestExitPulse.group = s.group ∧ s.requestExitPulse.alert = s.alert ∧ s.requestExitPulse.report = s.report ∧
    s.requestExitPulse.port = s.port ∧ s.requestExitPulse.tables = s.tables ∧
    s.requestExitPulse.freeCount = s.freeCount ∧ s.requestExitPulse.pending = s.pending := ⟨rfl, rfl, rfl, rfl, rfl, rfl, rfl, rfl, rfl, rfl, rfl, rfl, rfl, rfl, rfl⟩

@[simp] theorem State.applyCrossing_frame (s : State) (x : Crossing) :
    (s.applyCrossing x).clock = s.clock ∧ (s.applyCrossing x).node = s.node ∧ (s.applyCrossing x).rings = s.rings ∧
    (s.applyCrossing x).report = s.report ∧ (s.applyCrossing x).tables = s.tables ∧
    (s.applyCrossing x).freeCount = s.freeCount ∧ (s.applyCrossing x).pending = s.pending := by
  and_intros <;> (simp only [State.applyCrossing]; repeat' split) <;> simp

@[simp] theorem State.holdCrossing_frame (s : State) (x : Crossing) :
    (s.holdCrossing x).clock = s.clock ∧ (s.holdCrossing x).node = s.node ∧ (s.holdCrossing x).rings = s.rings ∧
    (s.holdCrossing x).load = s.load ∧ (s.holdCrossing x).thermal = s.thermal ∧ (s.holdCrossing x).group = s.group ∧
    (s.holdCrossing x).gate = s.gate ∧ (s.holdCrossing x).report = s.report ∧ (s.holdCrossing x).tables = s.tables ∧
    (s.holdCrossing x).freeCount = s.freeCount ∧ (s.holdCrossing x).pending = s.pending := by
  and_intros <;> (unfold State.holdCrossing; repeat' split) <;> simp

@[simp] theorem State.enterStandby_frame (s : State) :
    s.enterStandby.clock = s.clock ∧ s.enterStandby.axles = s.axles ∧ s.enterStandby.rings = s.rings ∧
    s.enterStandby.thermal = s.thermal ∧ s.enterStandby.group = s.group ∧ s.enterStandby.alert = s.alert ∧
    s.enterStandby.gate = s.gate ∧ s.enterStandby.report = s.report ∧ s.enterStandby.port = s.port ∧
    s.enterStandby.tables = s.tables ∧ s.enterStandby.freeCount = s.freeCount ∧ s.enterStandby.pending = s.pending := by simp [State.enterStandby]

@[simp] theorem State.wake_frame (s : State) (c : WakeCause) (t : Time) :
    (s.wake c t).clock = s.clock ∧ (s.wake c t).axles = s.axles ∧ (s.wake c t).thermal = s.thermal ∧
    (s.wake c t).group = s.group ∧ (s.wake c t).alert = s.alert ∧ (s.wake c t).gate = s.gate ∧
    (s.wake c t).report = s.report ∧ (s.wake c t).port = s.port ∧ (s.wake c t).tables = s.tables ∧
    (s.wake c t).freeCount = s.freeCount ∧ (s.wake c t).pending = s.pending := by simp [State.wake]

@[simp] theorem State.takeCoilEdge_frame (s : State) (t : Time) :
    (s.takeCoilEdge t).clock = s.clock ∧ (s.takeCoilEdge t).report = s.report ∧
    (s.takeCoilEdge t).tables = s.tables ∧ (s.takeCoilEdge t).freeCount = s.freeCount ∧
    (s.takeCoilEdge t).pending = s.pending := by
  and_intros <;> (unfold State.takeCoilEdge; repeat' split) <;> simp

@[simp] theorem State.takeCrossing_frame (s : State) (x : Crossing) :
    (s.takeCrossing x).clock = s.clock ∧ (s.takeCrossing x).report = s.report ∧
    (s.takeCrossing x).tables = s.tables ∧ (s.takeCrossing x).freeCount = s.freeCount ∧
    (s.takeCrossing x).pending = s.pending := by
  and_intros <;> (unfold State.takeCrossing; repeat' split) <;> simp

@[simp] theorem State.takeApproach_frame (s : State) (i : Approach) (t : Time) :
    (s.takeApproach i t).clock = s.clock ∧ (s.takeApproach i t).report = s.report ∧
    (s.takeApproach i t).tables = s.tables ∧ (s.takeApproach i t).freeCount = s.freeCount ∧
    (s.takeApproach i t).pending = s.pending := by
  and_intros <;> (unfold State.takeApproach; repeat' split) <;> simp

@[simp] theorem State.qualify_frame (s : State) (i : Approach) (t : Time) :
    (s.qualify i t).clock = s.clock ∧ (s.qualify i t).report = s.report ∧ (s.qualify i t).tables = s.tables ∧
    (s.qualify i t).freeCount = s.freeCount ∧ (s.qualify i t).pending = s.pending := by
  and_intros <;> (simp only [State.qualify]; repeat' split) <;> simp

@[simp] theorem State.setApproachPin_frame (s : State) (i : Approach) (b : Bool) :
    (s.setApproachPin i b).clock = s.clock ∧ (s.setApproachPin i b).heads = s.heads ∧
    (s.setApproachPin i b).axles = s.axles ∧ (s.setApproachPin i b).node = s.node ∧
    (s.setApproachPin i b).rings = s.rings ∧ (s.setApproachPin i b).load = s.load ∧
    (s.setApproachPin i b).thermal = s.thermal ∧ (s.setApproachPin i b).group = s.group ∧
    (s.setApproachPin i b).alert = s.alert ∧ (s.setApproachPin i b).gate = s.gate ∧
    (s.setApproachPin i b).report = s.report ∧ (s.setApproachPin i b).port = s.port ∧
    (s.setApproachPin i b).tables = s.tables ∧ (s.setApproachPin i b).freeCount = s.freeCount ∧
    (s.setApproachPin i b).pending = s.pending := by simp [State.setApproachPin]

@[simp] theorem State.startClose_frame (s : State) (c : Closure) :
    (s.startClose c).clock = s.clock ∧ (s.startClose c).heads = s.heads ∧ (s.startClose c).axles = s.axles ∧
    (s.startClose c).node = s.node ∧ (s.startClose c).rings = s.rings ∧ (s.startClose c).load = s.load ∧
    (s.startClose c).thermal = s.thermal ∧ (s.startClose c).group = s.group ∧ (s.startClose c).alert = s.alert ∧
    (s.startClose c).gate = s.gate ∧ (s.startClose c).report = s.report ∧ (s.startClose c).port = s.port ∧
    (s.startClose c).tables = s.tables ∧ (s.startClose c).freeCount = s.freeCount ∧
    (s.startClose c).pending = s.pending := ⟨rfl, rfl, rfl, rfl, rfl, rfl, rfl, rfl, rfl, rfl, rfl, rfl, rfl, rfl, rfl⟩

@[simp] theorem State.enterStopped_frame (s : State) :
    s.enterStopped.clock = s.clock ∧ s.enterStopped.heads = s.heads ∧ s.enterStopped.node = s.node ∧
    s.enterStopped.rings = s.rings ∧ s.enterStopped.load = s.load ∧ s.enterStopped.thermal = s.thermal ∧
    s.enterStopped.group = s.group ∧ s.enterStopped.gate = s.gate ∧ s.enterStopped.report = s.report ∧
    s.enterStopped.tables = s.tables ∧ s.enterStopped.freeCount = s.freeCount ∧ s.enterStopped.pending = s.pending := by simp [State.enterStopped]

@[simp] theorem State.activateSite_frame (s : State) (c : SiteConstants) :
    (s.activateSite c).clock = s.clock ∧ (s.activateSite c).heads = s.heads ∧ (s.activateSite c).axles = s.axles ∧
    (s.activateSite c).node = s.node ∧ (s.activateSite c).rings = s.rings ∧ (s.activateSite c).load = s.load ∧
    (s.activateSite c).thermal = s.thermal ∧ (s.activateSite c).group = s.group ∧
    (s.activateSite c).alert = s.alert ∧ (s.activateSite c).gate = s.gate ∧ (s.activateSite c).report = s.report ∧
    (s.activateSite c).port = s.port ∧ (s.activateSite c).freeCount = s.freeCount ∧
    (s.activateSite c).pending = s.pending := by
  and_intros <;> (simp only [State.activateSite]; repeat' split) <;> simp

@[simp] theorem State.activateChannel_frame (s : State) (i : ChanIdx) (e : Entry Channel) :
    (s.activateChannel i e).clock = s.clock ∧ (s.activateChannel i e).heads = s.heads ∧
    (s.activateChannel i e).session = s.session ∧ (s.activateChannel i e).axles = s.axles ∧
    (s.activateChannel i e).node = s.node ∧ (s.activateChannel i e).thermal = s.thermal ∧
    (s.activateChannel i e).group = s.group ∧ (s.activateChannel i e).alert = s.alert ∧
    (s.activateChannel i e).gate = s.gate ∧ (s.activateChannel i e).report = s.report ∧
    (s.activateChannel i e).freeCount = s.freeCount ∧ (s.activateChannel i e).pending = s.pending := ⟨rfl, rfl, rfl, rfl, rfl, rfl, rfl, rfl, rfl, rfl, rfl, rfl⟩

@[simp] theorem State.writeChannels_frame (s : State) (n : Nat) (l : List (Entry Channel)) :
    (s.writeChannels n l).clock = s.clock ∧ (s.writeChannels n l).heads = s.heads ∧
    (s.writeChannels n l).session = s.session ∧ (s.writeChannels n l).axles = s.axles ∧
    (s.writeChannels n l).node = s.node ∧ (s.writeChannels n l).thermal = s.thermal ∧
    (s.writeChannels n l).group = s.group ∧ (s.writeChannels n l).alert = s.alert ∧
    (s.writeChannels n l).gate = s.gate ∧ (s.writeChannels n l).report = s.report ∧
    (s.writeChannels n l).freeCount = s.freeCount ∧ (s.writeChannels n l).pending = s.pending := by induction l generalizing s n with
  | nil => simp [State.writeChannels]
  | cons e l ih => and_intros <;> (simp only [State.writeChannels]; repeat' split) <;> simp [ih]

@[simp] theorem State.writeActive_frame (s : State) (l : TableLoad) :
    (s.writeActive l).clock = s.clock ∧ (s.writeActive l).heads = s.heads ∧ (s.writeActive l).axles = s.axles ∧
    (s.writeActive l).node = s.node ∧ (s.writeActive l).thermal = s.thermal ∧ (s.writeActive l).group = s.group ∧
    (s.writeActive l).alert = s.alert ∧ (s.writeActive l).gate = s.gate ∧ (s.writeActive l).report = s.report ∧
    (s.writeActive l).freeCount = s.freeCount ∧ (s.writeActive l).pending = s.pending := by cases l <;> simp [State.writeActive]

@[simp] theorem State.writePending_frame (s : State) (l : TableLoad) :
    (s.writePending l).clock = s.clock ∧ (s.writePending l).heads = s.heads ∧
    (s.writePending l).session = s.session ∧ (s.writePending l).axles = s.axles ∧ (s.writePending l).node = s.node ∧
    (s.writePending l).rings = s.rings ∧ (s.writePending l).load = s.load ∧ (s.writePending l).thermal = s.thermal ∧
    (s.writePending l).group = s.group ∧ (s.writePending l).alert = s.alert ∧ (s.writePending l).gate = s.gate ∧
    (s.writePending l).report = s.report ∧ (s.writePending l).port = s.port ∧
    (s.writePending l).freeCount = s.freeCount ∧ (s.writePending l).pending = s.pending := by cases l <;> simp [State.writePending]

@[simp] theorem State.applyChannels_frame (s : State) (l : List ChanIdx) :
    (s.applyChannels l).clock = s.clock ∧ (s.applyChannels l).heads = s.heads ∧
    (s.applyChannels l).session = s.session ∧ (s.applyChannels l).axles = s.axles ∧
    (s.applyChannels l).node = s.node ∧ (s.applyChannels l).thermal = s.thermal ∧
    (s.applyChannels l).group = s.group ∧ (s.applyChannels l).alert = s.alert ∧ (s.applyChannels l).gate = s.gate ∧
    (s.applyChannels l).report = s.report ∧ (s.applyChannels l).freeCount = s.freeCount ∧
    (s.applyChannels l).pending = s.pending := by induction l generalizing s with
  | nil => simp [State.applyChannels]
  | cons i l ih => and_intros <;> (simp only [State.applyChannels]; repeat' split) <;> simp [ih]

@[simp] theorem State.applyPending_frame (s : State) :
    s.applyPending.clock = s.clock ∧ s.applyPending.heads = s.heads ∧ s.applyPending.axles = s.axles ∧
    s.applyPending.node = s.node ∧ s.applyPending.thermal = s.thermal ∧ s.applyPending.group = s.group ∧
    s.applyPending.alert = s.alert ∧ s.applyPending.gate = s.gate ∧ s.applyPending.report = s.report ∧
    s.applyPending.freeCount = s.freeCount ∧ s.applyPending.pending = s.pending := by
  and_intros <;> (simp only [State.applyPending]; repeat' split) <;> simp

@[simp] theorem State.answer_frame (s : State) (c : Command) (st : Status) (l : List Byte) :
    (s.answer c st l).clock = s.clock ∧ (s.answer c st l).heads = s.heads ∧ (s.answer c st l).session = s.session ∧
    (s.answer c st l).axles = s.axles ∧ (s.answer c st l).node = s.node ∧ (s.answer c st l).rings = s.rings ∧
    (s.answer c st l).load = s.load ∧ (s.answer c st l).thermal = s.thermal ∧ (s.answer c st l).group = s.group ∧
    (s.answer c st l).alert = s.alert ∧ (s.answer c st l).gate = s.gate ∧ (s.answer c st l).report = s.report ∧
    (s.answer c st l).tables = s.tables ∧ (s.answer c st l).freeCount = s.freeCount ∧
    (s.answer c st l).pending = s.pending := ⟨rfl, rfl, rfl, rfl, rfl, rfl, rfl, rfl, rfl, rfl, rfl, rfl, rfl, rfl, rfl⟩

@[simp] theorem State.answerRange_frame (s : State) (c : Command) (i : Nat) :
    (s.answerRange c i).clock = s.clock ∧ (s.answerRange c i).heads = s.heads ∧
    (s.answerRange c i).session = s.session ∧ (s.answerRange c i).axles = s.axles ∧
    (s.answerRange c i).node = s.node ∧ (s.answerRange c i).rings = s.rings ∧ (s.answerRange c i).load = s.load ∧
    (s.answerRange c i).thermal = s.thermal ∧ (s.answerRange c i).group = s.group ∧
    (s.answerRange c i).alert = s.alert ∧ (s.answerRange c i).gate = s.gate ∧ (s.answerRange c i).report = s.report ∧
    (s.answerRange c i).tables = s.tables ∧ (s.answerRange c i).freeCount = s.freeCount ∧
    (s.answerRange c i).pending = s.pending := ⟨rfl, rfl, rfl, rfl, rfl, rfl, rfl, rfl, rfl, rfl, rfl, rfl, rfl, rfl, rfl⟩

@[simp] theorem State.answerRangeFree_frame (s : State) (c : Command) :
    (s.answerRangeFree c).clock = s.clock ∧ (s.answerRangeFree c).heads = s.heads ∧
    (s.answerRangeFree c).session = s.session ∧ (s.answerRangeFree c).axles = s.axles ∧
    (s.answerRangeFree c).node = s.node ∧ (s.answerRangeFree c).rings = s.rings ∧
    (s.answerRangeFree c).load = s.load ∧ (s.answerRangeFree c).thermal = s.thermal ∧
    (s.answerRangeFree c).group = s.group ∧ (s.answerRangeFree c).alert = s.alert ∧
    (s.answerRangeFree c).gate = s.gate ∧ (s.answerRangeFree c).report = s.report ∧
    (s.answerRangeFree c).tables = s.tables ∧ (s.answerRangeFree c).pending = s.pending := ⟨rfl, rfl, rfl, rfl, rfl, rfl, rfl, rfl, rfl, rfl, rfl, rfl, rfl, rfl⟩

@[simp] theorem State.discardStation_frame (s : State) :
    s.discardStation.clock = s.clock ∧ s.discardStation.heads = s.heads ∧ s.discardStation.session = s.session ∧
    s.discardStation.node = s.node ∧ s.discardStation.rings = s.rings ∧ s.discardStation.load = s.load ∧
    s.discardStation.thermal = s.thermal ∧ s.discardStation.group = s.group ∧ s.discardStation.gate = s.gate ∧
    s.discardStation.report = s.report ∧ s.discardStation.tables = s.tables ∧
    s.discardStation.freeCount = s.freeCount ∧ s.discardStation.pending = s.pending := by
  and_intros <;> (simp only [State.discardStation]; repeat' split) <;> simp

@[simp] theorem State.receiveCommand_frame (s : State) (c : Command) :
    (s.receiveCommand c).clock = s.clock ∧ (s.receiveCommand c).heads = s.heads ∧
    (s.receiveCommand c).session = s.session ∧ (s.receiveCommand c).axles = s.axles ∧
    (s.receiveCommand c).node = s.node ∧ (s.receiveCommand c).rings = s.rings ∧ (s.receiveCommand c).load = s.load ∧
    (s.receiveCommand c).thermal = s.thermal ∧ (s.receiveCommand c).group = s.group ∧
    (s.receiveCommand c).alert = s.alert ∧ (s.receiveCommand c).gate = s.gate ∧
    (s.receiveCommand c).report = s.report ∧ (s.receiveCommand c).tables = s.tables ∧
    (s.receiveCommand c).pending = s.pending := by
  and_intros <;> (unfold State.receiveCommand; repeat' split) <;> simp

@[simp] theorem State.closeCounts_frame (s : State) :
    s.closeCounts.clock = s.clock ∧ s.closeCounts.heads = s.heads ∧ s.closeCounts.node = s.node ∧
    s.closeCounts.rings = s.rings ∧ s.closeCounts.load = s.load ∧ s.closeCounts.thermal = s.thermal ∧
    s.closeCounts.group = s.group ∧ s.closeCounts.gate = s.gate ∧ s.closeCounts.report = s.report ∧
    s.closeCounts.tables = s.tables ∧ s.closeCounts.freeCount = s.freeCount ∧ s.closeCounts.pending = s.pending := by
  and_intros <;> (unfold State.closeCounts; repeat' split) <;> simp

@[simp] theorem State.beginCopy_frame (s : State) :
    s.beginCopy.clock = s.clock ∧ s.beginCopy.heads = s.heads ∧ s.beginCopy.session = s.session ∧
    s.beginCopy.axles = s.axles ∧ s.beginCopy.node = s.node ∧ s.beginCopy.rings = s.rings ∧
    s.beginCopy.load = s.load ∧ s.beginCopy.thermal = s.thermal ∧ s.beginCopy.group = s.group ∧
    s.beginCopy.alert = s.alert ∧ s.beginCopy.gate = s.gate ∧ s.beginCopy.port = s.port ∧
    s.beginCopy.tables = s.tables ∧ s.beginCopy.freeCount = s.freeCount ∧ s.beginCopy.pending = s.pending := by
  and_intros <;> (unfold State.beginCopy; repeat' split) <;> simp

@[simp] theorem State.loseOld_frame (s : State) (i : Fin 4) :
    (s.loseOld i).clock = s.clock ∧ (s.loseOld i).heads = s.heads ∧ (s.loseOld i).session = s.session ∧
    (s.loseOld i).node = s.node ∧ (s.loseOld i).rings = s.rings ∧ (s.loseOld i).load = s.load ∧
    (s.loseOld i).thermal = s.thermal ∧ (s.loseOld i).group = s.group ∧ (s.loseOld i).gate = s.gate ∧
    (s.loseOld i).tables = s.tables ∧ (s.loseOld i).freeCount = s.freeCount ∧ (s.loseOld i).pending = s.pending := by
  and_intros <;> (unfold State.loseOld; repeat' split) <;> simp

@[simp] theorem State.putReport_frame (s : State) (i : Fin 4) (r : Report) :
    (s.putReport i r).clock = s.clock ∧ (s.putReport i r).heads = s.heads ∧ (s.putReport i r).session = s.session ∧
    (s.putReport i r).axles = s.axles ∧ (s.putReport i r).node = s.node ∧ (s.putReport i r).rings = s.rings ∧
    (s.putReport i r).load = s.load ∧ (s.putReport i r).thermal = s.thermal ∧ (s.putReport i r).group = s.group ∧
    (s.putReport i r).alert = s.alert ∧ (s.putReport i r).gate = s.gate ∧ (s.putReport i r).port = s.port ∧
    (s.putReport i r).tables = s.tables ∧ (s.putReport i r).freeCount = s.freeCount ∧
    (s.putReport i r).pending = s.pending := ⟨rfl, rfl, rfl, rfl, rfl, rfl, rfl, rfl, rfl, rfl, rfl, rfl, rfl, rfl, rfl⟩

@[simp] theorem State.install_frame (s : State) (i : Fin 4) (r : Report) :
    (s.install i r).clock = s.clock ∧ (s.install i r).heads = s.heads ∧ (s.install i r).session = s.session ∧
    (s.install i r).node = s.node ∧ (s.install i r).rings = s.rings ∧ (s.install i r).load = s.load ∧
    (s.install i r).thermal = s.thermal ∧ (s.install i r).group = s.group ∧ (s.install i r).gate = s.gate ∧
    (s.install i r).tables = s.tables ∧ (s.install i r).freeCount = s.freeCount ∧ (s.install i r).pending = s.pending := by simp [State.install]

@[simp] theorem State.applyAll_frame (s : State) (l : List Crossing) :
    (s.applyAll l).clock = s.clock ∧ (s.applyAll l).node = s.node ∧ (s.applyAll l).rings = s.rings ∧
    (s.applyAll l).report = s.report ∧ (s.applyAll l).tables = s.tables ∧ (s.applyAll l).freeCount = s.freeCount ∧
    (s.applyAll l).pending = s.pending := by induction l generalizing s <;> simp [State.applyAll, *]

@[simp] theorem State.completeClose_frame (s : State) :
    s.completeClose.clock = s.clock ∧ s.completeClose.rings = s.rings ∧ s.completeClose.report = s.report ∧
    s.completeClose.tables = s.tables ∧ s.completeClose.freeCount = s.freeCount ∧ s.completeClose.pending = s.pending := by
  and_intros <;> (simp only [State.completeClose]; repeat' split) <;> simp

@[simp] theorem State.placeReport_frame (s : State) (e : Readout) (r : Report) :
    (s.placeReport e r).clock = s.clock ∧ (s.placeReport e r).heads = s.heads ∧
    (s.placeReport e r).session = s.session ∧ (s.placeReport e r).axles = s.axles ∧
    (s.placeReport e r).node = s.node ∧ (s.placeReport e r).rings = s.rings ∧ (s.placeReport e r).load = s.load ∧
    (s.placeReport e r).thermal = s.thermal ∧ (s.placeReport e r).group = s.group ∧
    (s.placeReport e r).alert = s.alert ∧ (s.placeReport e r).gate = s.gate ∧ (s.placeReport e r).tables = s.tables ∧
    (s.placeReport e r).freeCount = s.freeCount ∧ (s.placeReport e r).pending = s.pending := by
  and_intros <;> (simp only [State.placeReport]; repeat' split) <;> simp

@[simp] theorem State.serveReadReport_frame (c : Command) (s : State) :
    (State.serveReadReport c s).clock = s.clock ∧ (State.serveReadReport c s).heads = s.heads ∧
    (State.serveReadReport c s).session = s.session ∧ (State.serveReadReport c s).axles = s.axles ∧
    (State.serveReadReport c s).node = s.node ∧ (State.serveReadReport c s).rings = s.rings ∧
    (State.serveReadReport c s).load = s.load ∧ (State.serveReadReport c s).thermal = s.thermal ∧
    (State.serveReadReport c s).group = s.group ∧ (State.serveReadReport c s).alert = s.alert ∧
    (State.serveReadReport c s).gate = s.gate ∧ (State.serveReadReport c s).tables = s.tables ∧
    (State.serveReadReport c s).freeCount = s.freeCount ∧ (State.serveReadReport c s).pending = s.pending := by
  and_intros <;> (simp only [State.serveReadReport]; repeat' split) <;> simp

@[simp] theorem State.serveAbort_frame (c : Command) (s : State) :
    (State.serveAbort c s).clock = s.clock ∧ (State.serveAbort c s).heads = s.heads ∧
    (State.serveAbort c s).session = s.session ∧ (State.serveAbort c s).axles = s.axles ∧
    (State.serveAbort c s).node = s.node ∧ (State.serveAbort c s).rings = s.rings ∧
    (State.serveAbort c s).load = s.load ∧ (State.serveAbort c s).thermal = s.thermal ∧
    (State.serveAbort c s).group = s.group ∧ (State.serveAbort c s).alert = s.alert ∧
    (State.serveAbort c s).gate = s.gate ∧ (State.serveAbort c s).tables = s.tables ∧
    (State.serveAbort c s).freeCount = s.freeCount ∧ (State.serveAbort c s).pending = s.pending := by
  and_intros <;> (simp only [State.serveAbort]; repeat' split) <;> simp

@[simp] theorem State.release_frame (s : State) (i : Fin 4) :
    (s.release i).clock = s.clock ∧ (s.release i).heads = s.heads ∧ (s.release i).session = s.session ∧
    (s.release i).axles = s.axles ∧ (s.release i).node = s.node ∧ (s.release i).rings = s.rings ∧
    (s.release i).load = s.load ∧ (s.release i).thermal = s.thermal ∧ (s.release i).group = s.group ∧
    (s.release i).alert = s.alert ∧ (s.release i).gate = s.gate ∧ (s.release i).port = s.port ∧
    (s.release i).tables = s.tables ∧ (s.release i).freeCount = s.freeCount ∧ (s.release i).pending = s.pending := ⟨rfl, rfl, rfl, rfl, rfl, rfl, rfl, rfl, rfl, rfl, rfl, rfl, rfl, rfl, rfl⟩

@[simp] theorem State.serveRelease_frame (c : Command) (s : State) :
    (State.serveRelease c s).clock = s.clock ∧ (State.serveRelease c s).heads = s.heads ∧
    (State.serveRelease c s).session = s.session ∧ (State.serveRelease c s).axles = s.axles ∧
    (State.serveRelease c s).node = s.node ∧ (State.serveRelease c s).rings = s.rings ∧
    (State.serveRelease c s).load = s.load ∧ (State.serveRelease c s).thermal = s.thermal ∧
    (State.serveRelease c s).group = s.group ∧ (State.serveRelease c s).alert = s.alert ∧
    (State.serveRelease c s).gate = s.gate ∧ (State.serveRelease c s).tables = s.tables ∧
    (State.serveRelease c s).pending = s.pending := by
  and_intros <;> (simp only [State.serveRelease]; repeat' split) <;> simp

@[simp] theorem State.clearKind_frame (s : State) (k : AlertKind) :
    (s.clearKind k).clock = s.clock ∧ (s.clearKind k).heads = s.heads ∧ (s.clearKind k).session = s.session ∧
    (s.clearKind k).axles = s.axles ∧ (s.clearKind k).node = s.node ∧ (s.clearKind k).rings = s.rings ∧
    (s.clearKind k).load = s.load ∧ (s.clearKind k).thermal = s.thermal ∧ (s.clearKind k).group = s.group ∧
    (s.clearKind k).gate = s.gate ∧ (s.clearKind k).report = s.report ∧ (s.clearKind k).port = s.port ∧
    (s.clearKind k).tables = s.tables ∧ (s.clearKind k).freeCount = s.freeCount ∧ (s.clearKind k).pending = s.pending := ⟨rfl, rfl, rfl, rfl, rfl, rfl, rfl, rfl, rfl, rfl, rfl, rfl, rfl, rfl, rfl⟩

@[simp] theorem State.clearAll_frame (s : State) :
    s.clearAll.clock = s.clock ∧ s.clearAll.heads = s.heads ∧ s.clearAll.session = s.session ∧
    s.clearAll.axles = s.axles ∧ s.clearAll.node = s.node ∧ s.clearAll.rings = s.rings ∧ s.clearAll.load = s.load ∧
    s.clearAll.thermal = s.thermal ∧ s.clearAll.group = s.group ∧ s.clearAll.gate = s.gate ∧
    s.clearAll.report = s.report ∧ s.clearAll.port = s.port ∧ s.clearAll.tables = s.tables ∧
    s.clearAll.freeCount = s.freeCount ∧ s.clearAll.pending = s.pending := by simp [State.clearAll]

@[simp] theorem State.serveClearAlert_frame (c : Command) (s : State) :
    (State.serveClearAlert c s).clock = s.clock ∧ (State.serveClearAlert c s).heads = s.heads ∧
    (State.serveClearAlert c s).session = s.session ∧ (State.serveClearAlert c s).axles = s.axles ∧
    (State.serveClearAlert c s).node = s.node ∧ (State.serveClearAlert c s).rings = s.rings ∧
    (State.serveClearAlert c s).load = s.load ∧ (State.serveClearAlert c s).thermal = s.thermal ∧
    (State.serveClearAlert c s).group = s.group ∧ (State.serveClearAlert c s).gate = s.gate ∧
    (State.serveClearAlert c s).report = s.report ∧ (State.serveClearAlert c s).tables = s.tables ∧
    (State.serveClearAlert c s).pending = s.pending := by
  and_intros <;> (simp only [State.serveClearAlert]; repeat' split) <;> simp

@[simp] theorem State.setEnables_frame (s : State) (m : BitVec 32) :
    (s.setEnables m).clock = s.clock ∧ (s.setEnables m).heads = s.heads ∧ (s.setEnables m).session = s.session ∧
    (s.setEnables m).axles = s.axles ∧ (s.setEnables m).node = s.node ∧ (s.setEnables m).rings = s.rings ∧
    (s.setEnables m).load = s.load ∧ (s.setEnables m).thermal = s.thermal ∧ (s.setEnables m).group = s.group ∧
    (s.setEnables m).gate = s.gate ∧ (s.setEnables m).report = s.report ∧ (s.setEnables m).port = s.port ∧
    (s.setEnables m).tables = s.tables ∧ (s.setEnables m).freeCount = s.freeCount ∧
    (s.setEnables m).pending = s.pending := by simp [State.setEnables]

@[simp] theorem State.serveSetAlertEnable_frame (c : Command) (s : State) :
    (State.serveSetAlertEnable c s).clock = s.clock ∧ (State.serveSetAlertEnable c s).heads = s.heads ∧
    (State.serveSetAlertEnable c s).session = s.session ∧ (State.serveSetAlertEnable c s).axles = s.axles ∧
    (State.serveSetAlertEnable c s).node = s.node ∧ (State.serveSetAlertEnable c s).rings = s.rings ∧
    (State.serveSetAlertEnable c s).load = s.load ∧ (State.serveSetAlertEnable c s).thermal = s.thermal ∧
    (State.serveSetAlertEnable c s).group = s.group ∧ (State.serveSetAlertEnable c s).gate = s.gate ∧
    (State.serveSetAlertEnable c s).report = s.report ∧ (State.serveSetAlertEnable c s).tables = s.tables ∧
    (State.serveSetAlertEnable c s).pending = s.pending := by
  and_intros <;> (simp only [State.serveSetAlertEnable]; repeat' split) <;> simp

@[simp] theorem State.serveLoadTable_frame (c : Command) (s : State) :
    (State.serveLoadTable c s).clock = s.clock ∧ (State.serveLoadTable c s).heads = s.heads ∧
    (State.serveLoadTable c s).axles = s.axles ∧ (State.serveLoadTable c s).node = s.node ∧
    (State.serveLoadTable c s).thermal = s.thermal ∧ (State.serveLoadTable c s).group = s.group ∧
    (State.serveLoadTable c s).alert = s.alert ∧ (State.serveLoadTable c s).gate = s.gate ∧
    (State.serveLoadTable c s).report = s.report ∧ (State.serveLoadTable c s).freeCount = s.freeCount ∧
    (State.serveLoadTable c s).pending = s.pending := by
  and_intros <;> (simp only [State.serveLoadTable]; repeat' split) <;> simp

@[simp] theorem State.drawBytes_frame (s : State) (n : Nat) :
    (s.drawBytes n).2.clock = s.clock ∧ (s.drawBytes n).2.heads = s.heads ∧ (s.drawBytes n).2.session = s.session ∧
    (s.drawBytes n).2.axles = s.axles ∧ (s.drawBytes n).2.node = s.node ∧ (s.drawBytes n).2.rings = s.rings ∧
    (s.drawBytes n).2.load = s.load ∧ (s.drawBytes n).2.thermal = s.thermal ∧ (s.drawBytes n).2.group = s.group ∧
    (s.drawBytes n).2.alert = s.alert ∧ (s.drawBytes n).2.gate = s.gate ∧ (s.drawBytes n).2.report = s.report ∧
    (s.drawBytes n).2.port = s.port ∧ (s.drawBytes n).2.tables = s.tables ∧ (s.drawBytes n).2.pending = s.pending := by induction n generalizing s <;> simp [State.drawBytes, *]

@[simp] theorem State.entryBytes_frame {α : Type} (s : State) (n : Nat) (f : α → List Byte) (e : Entry α) :
    (s.entryBytes n f e).2.clock = s.clock ∧ (s.entryBytes n f e).2.heads = s.heads ∧
    (s.entryBytes n f e).2.session = s.session ∧ (s.entryBytes n f e).2.axles = s.axles ∧
    (s.entryBytes n f e).2.node = s.node ∧ (s.entryBytes n f e).2.rings = s.rings ∧
    (s.entryBytes n f e).2.load = s.load ∧ (s.entryBytes n f e).2.thermal = s.thermal ∧
    (s.entryBytes n f e).2.group = s.group ∧ (s.entryBytes n f e).2.alert = s.alert ∧
    (s.entryBytes n f e).2.gate = s.gate ∧ (s.entryBytes n f e).2.report = s.report ∧
    (s.entryBytes n f e).2.port = s.port ∧ (s.entryBytes n f e).2.tables = s.tables ∧
    (s.entryBytes n f e).2.pending = s.pending := by cases e <;> simp [State.entryBytes]

@[simp] theorem State.activeRun_frame {α : Type} (s : State) (n : Nat) (f : α → List Byte) (l : List (Entry α)) :
    (s.activeRun n f l).2.clock = s.clock ∧ (s.activeRun n f l).2.heads = s.heads ∧
    (s.activeRun n f l).2.session = s.session ∧ (s.activeRun n f l).2.axles = s.axles ∧
    (s.activeRun n f l).2.node = s.node ∧ (s.activeRun n f l).2.rings = s.rings ∧
    (s.activeRun n f l).2.load = s.load ∧ (s.activeRun n f l).2.thermal = s.thermal ∧
    (s.activeRun n f l).2.group = s.group ∧ (s.activeRun n f l).2.alert = s.alert ∧
    (s.activeRun n f l).2.gate = s.gate ∧ (s.activeRun n f l).2.report = s.report ∧
    (s.activeRun n f l).2.port = s.port ∧ (s.activeRun n f l).2.tables = s.tables ∧
    (s.activeRun n f l).2.pending = s.pending := by induction l generalizing s <;> simp [State.activeRun, *]

@[simp] theorem State.pendingRun_frame {α : Type} (s : State) (n : Nat) (f : α → List Byte) (l : List (Option (Entry α))) :
    (s.pendingRun n f l).2.clock = s.clock ∧ (s.pendingRun n f l).2.heads = s.heads ∧
    (s.pendingRun n f l).2.session = s.session ∧ (s.pendingRun n f l).2.axles = s.axles ∧
    (s.pendingRun n f l).2.node = s.node ∧ (s.pendingRun n f l).2.rings = s.rings ∧
    (s.pendingRun n f l).2.load = s.load ∧ (s.pendingRun n f l).2.thermal = s.thermal ∧
    (s.pendingRun n f l).2.group = s.group ∧ (s.pendingRun n f l).2.alert = s.alert ∧
    (s.pendingRun n f l).2.gate = s.gate ∧ (s.pendingRun n f l).2.report = s.report ∧
    (s.pendingRun n f l).2.port = s.port ∧ (s.pendingRun n f l).2.tables = s.tables ∧
    (s.pendingRun n f l).2.pending = s.pending := by induction l generalizing s with
  | nil => simp [State.pendingRun]
  | cons e l ih => cases e <;> simp [State.pendingRun, ih]

@[simp] theorem State.readEntries_frame (s : State) (i m n : Nat) (b : Bool) :
    (s.readEntries i m n b).2.clock = s.clock ∧ (s.readEntries i m n b).2.heads = s.heads ∧
    (s.readEntries i m n b).2.session = s.session ∧ (s.readEntries i m n b).2.axles = s.axles ∧
    (s.readEntries i m n b).2.node = s.node ∧ (s.readEntries i m n b).2.rings = s.rings ∧
    (s.readEntries i m n b).2.load = s.load ∧ (s.readEntries i m n b).2.thermal = s.thermal ∧
    (s.readEntries i m n b).2.group = s.group ∧ (s.readEntries i m n b).2.alert = s.alert ∧
    (s.readEntries i m n b).2.gate = s.gate ∧ (s.readEntries i m n b).2.report = s.report ∧
    (s.readEntries i m n b).2.port = s.port ∧ (s.readEntries i m n b).2.tables = s.tables ∧
    (s.readEntries i m n b).2.pending = s.pending := by
  unfold State.readEntries; split <;> simp

@[simp] theorem State.serveReadTable_frame (c : Command) (s : State) :
    (State.serveReadTable c s).clock = s.clock ∧ (State.serveReadTable c s).heads = s.heads ∧
    (State.serveReadTable c s).session = s.session ∧ (State.serveReadTable c s).axles = s.axles ∧
    (State.serveReadTable c s).node = s.node ∧ (State.serveReadTable c s).rings = s.rings ∧
    (State.serveReadTable c s).load = s.load ∧ (State.serveReadTable c s).thermal = s.thermal ∧
    (State.serveReadTable c s).group = s.group ∧ (State.serveReadTable c s).alert = s.alert ∧
    (State.serveReadTable c s).gate = s.gate ∧ (State.serveReadTable c s).report = s.report ∧
    (State.serveReadTable c s).tables = s.tables ∧ (State.serveReadTable c s).pending = s.pending := by
  and_intros <;> (simp only [State.serveReadTable]; repeat' split) <;> simp

@[simp] theorem State.serveReadAxle_frame (c : Command) (s : State) :
    (State.serveReadAxle c s).clock = s.clock ∧ (State.serveReadAxle c s).heads = s.heads ∧
    (State.serveReadAxle c s).session = s.session ∧ (State.serveReadAxle c s).axles = s.axles ∧
    (State.serveReadAxle c s).node = s.node ∧ (State.serveReadAxle c s).rings = s.rings ∧
    (State.serveReadAxle c s).load = s.load ∧ (State.serveReadAxle c s).thermal = s.thermal ∧
    (State.serveReadAxle c s).group = s.group ∧ (State.serveReadAxle c s).alert = s.alert ∧
    (State.serveReadAxle c s).gate = s.gate ∧ (State.serveReadAxle c s).report = s.report ∧
    (State.serveReadAxle c s).tables = s.tables ∧ (State.serveReadAxle c s).pending = s.pending := by
  and_intros <;> (simp only [State.serveReadAxle]; repeat' split) <;> simp

@[simp] theorem State.serveStandby_frame (c : Command) (s : State) :
    (State.serveStandby c s).clock = s.clock ∧ (State.serveStandby c s).axles = s.axles ∧
    (State.serveStandby c s).rings = s.rings ∧ (State.serveStandby c s).thermal = s.thermal ∧
    (State.serveStandby c s).group = s.group ∧ (State.serveStandby c s).alert = s.alert ∧
    (State.serveStandby c s).gate = s.gate ∧ (State.serveStandby c s).report = s.report ∧
    (State.serveStandby c s).tables = s.tables ∧ (State.serveStandby c s).freeCount = s.freeCount ∧
    (State.serveStandby c s).pending = s.pending := by
  and_intros <;> (unfold State.serveStandby; repeat' split) <;> simp

@[simp] theorem State.serveWake_frame (c : Command) (s : State) :
    (State.serveWake c s).clock = s.clock ∧ (State.serveWake c s).axles = s.axles ∧
    (State.serveWake c s).thermal = s.thermal ∧ (State.serveWake c s).group = s.group ∧
    (State.serveWake c s).alert = s.alert ∧ (State.serveWake c s).gate = s.gate ∧
    (State.serveWake c s).report = s.report ∧ (State.serveWake c s).tables = s.tables ∧
    (State.serveWake c s).freeCount = s.freeCount ∧ (State.serveWake c s).pending = s.pending := by
  and_intros <;> (unfold State.serveWake; repeat' split) <;> simp

@[simp] theorem State.serveCloseTrain_frame (c : Command) (s : State) :
    (State.serveCloseTrain c s).clock = s.clock ∧ (State.serveCloseTrain c s).heads = s.heads ∧
    (State.serveCloseTrain c s).axles = s.axles ∧ (State.serveCloseTrain c s).node = s.node ∧
    (State.serveCloseTrain c s).rings = s.rings ∧ (State.serveCloseTrain c s).load = s.load ∧
    (State.serveCloseTrain c s).thermal = s.thermal ∧ (State.serveCloseTrain c s).group = s.group ∧
    (State.serveCloseTrain c s).alert = s.alert ∧ (State.serveCloseTrain c s).gate = s.gate ∧
    (State.serveCloseTrain c s).report = s.report ∧ (State.serveCloseTrain c s).tables = s.tables ∧
    (State.serveCloseTrain c s).freeCount = s.freeCount ∧ (State.serveCloseTrain c s).pending = s.pending := by
  and_intros <;> (unfold State.serveCloseTrain; repeat' split) <;> simp

@[simp] theorem State.serveNodeTransaction_frame (c : Command) (s : State) :
    (State.serveNodeTransaction c s).clock = s.clock ∧ (State.serveNodeTransaction c s).heads = s.heads ∧
    (State.serveNodeTransaction c s).session = s.session ∧ (State.serveNodeTransaction c s).axles = s.axles ∧
    (State.serveNodeTransaction c s).rings = s.rings ∧ (State.serveNodeTransaction c s).load = s.load ∧
    (State.serveNodeTransaction c s).thermal = s.thermal ∧ (State.serveNodeTransaction c s).group = s.group ∧
    (State.serveNodeTransaction c s).alert = s.alert ∧ (State.serveNodeTransaction c s).gate = s.gate ∧
    (State.serveNodeTransaction c s).report = s.report ∧ (State.serveNodeTransaction c s).tables = s.tables ∧
    (State.serveNodeTransaction c s).freeCount = s.freeCount ∧ (State.serveNodeTransaction c s).pending = s.pending := by
  and_intros <;> (unfold State.serveNodeTransaction; repeat' split) <;> simp

@[simp] theorem State.replyAborted_frame (s : State) (t : Option Transaction) (w : Option Work) :
    (s.replyAborted t w).clock = s.clock ∧ (s.replyAborted t w).heads = s.heads ∧
    (s.replyAborted t w).session = s.session ∧ (s.replyAborted t w).axles = s.axles ∧
    (s.replyAborted t w).node = s.node ∧ (s.replyAborted t w).rings = s.rings ∧ (s.replyAborted t w).load = s.load ∧
    (s.replyAborted t w).thermal = s.thermal ∧ (s.replyAborted t w).group = s.group ∧
    (s.replyAborted t w).alert = s.alert ∧ (s.replyAborted t w).gate = s.gate ∧
    (s.replyAborted t w).report = s.report ∧ (s.replyAborted t w).tables = s.tables ∧
    (s.replyAborted t w).freeCount = s.freeCount ∧ (s.replyAborted t w).pending = s.pending := by
  and_intros <;> (unfold State.replyAborted; repeat' split) <;> simp

@[simp] theorem State.replyReset_frame (s : State) (e : Option Readout) :
    (s.replyReset e).clock = s.clock ∧ (s.replyReset e).heads = s.heads ∧ (s.replyReset e).session = s.session ∧
    (s.replyReset e).axles = s.axles ∧ (s.replyReset e).node = s.node ∧ (s.replyReset e).rings = s.rings ∧
    (s.replyReset e).load = s.load ∧ (s.replyReset e).thermal = s.thermal ∧ (s.replyReset e).group = s.group ∧
    (s.replyReset e).alert = s.alert ∧ (s.replyReset e).gate = s.gate ∧ (s.replyReset e).report = s.report ∧
    (s.replyReset e).tables = s.tables ∧ (s.replyReset e).freeCount = s.freeCount ∧
    (s.replyReset e).pending = s.pending := by
  and_intros <;> (unfold State.replyReset; repeat' split) <;> simp

@[simp] theorem State.arbitrate_frame (s : State) :
    s.arbitrate.clock = s.clock ∧ s.arbitrate.heads = s.heads ∧ s.arbitrate.session = s.session ∧
    s.arbitrate.axles = s.axles ∧ s.arbitrate.node = s.node ∧ s.arbitrate.rings = s.rings ∧
    s.arbitrate.load = s.load ∧ s.arbitrate.thermal = s.thermal ∧ s.arbitrate.group = s.group ∧
    s.arbitrate.alert = s.alert ∧ s.arbitrate.gate = s.gate ∧ s.arbitrate.tables = s.tables ∧
    s.arbitrate.freeCount = s.freeCount ∧ s.arbitrate.pending = s.pending := by
  and_intros <;> (unfold State.arbitrate; repeat' split) <;> simp

@[simp] theorem State.settleCopy_frame (s : State) (r : Report) :
    (s.settleCopy r).2.clock = s.clock ∧ (s.settleCopy r).2.heads = s.heads ∧
    (s.settleCopy r).2.session = s.session ∧ (s.settleCopy r).2.axles = s.axles ∧ (s.settleCopy r).2.node = s.node ∧
    (s.settleCopy r).2.rings = s.rings ∧ (s.settleCopy r).2.load = s.load ∧ (s.settleCopy r).2.thermal = s.thermal ∧
    (s.settleCopy r).2.group = s.group ∧ (s.settleCopy r).2.alert = s.alert ∧ (s.settleCopy r).2.gate = s.gate ∧
    (s.settleCopy r).2.report = s.report ∧ (s.settleCopy r).2.port = s.port ∧ (s.settleCopy r).2.tables = s.tables ∧
    (s.settleCopy r).2.pending = s.pending := ⟨rfl, rfl, rfl, rfl, rfl, rfl, rfl, rfl, rfl, rfl, rfl, rfl, rfl, rfl, rfl⟩

@[simp] theorem State.resetBlocks_frame (s : State) :
    s.resetBlocks.clock = s.clock ∧ s.resetBlocks.freeCount = s.freeCount ∧ s.resetBlocks.pending = s.pending := ⟨rfl, rfl, rfl⟩

@[simp] theorem State.resetState_frame (s : State) :
    s.resetState.clock = s.clock ∧ s.resetState.freeCount = s.freeCount ∧ s.resetState.pending = s.pending := by
  and_intros <;> (unfold State.resetState; repeat' split) <;> simp

@[simp] theorem State.serveSiteReset_frame (c : Command) (s : State) :
    (State.serveSiteReset c s).clock = s.clock ∧ (State.serveSiteReset c s).freeCount = s.freeCount ∧
    (State.serveSiteReset c s).pending = s.pending := by simp [State.serveSiteReset]

@[simp] theorem State.powerOn_frame (s : State) :
    s.powerOn.freeCount = s.freeCount ∧ s.powerOn.pending = s.pending := ⟨rfl, rfl⟩

end Sys2Proof.Machine
end

