-- ==== Sys2Proof/Laws/Serve.lean ====
section
/-!
SUPPORT. What the dispatcher does: nothing, a BAD_LENGTH reply, or the owner's answer; and what follows for a part of
the state or a property that the owner keeps.
-/

namespace Sys2Proof.Machine

/-- Everything the dispatcher can do on the row of one command. -/
theorem State.serve_cases (s : State) (code : Byte) (fits : Nat → Bool) (f : Command → State → State) :
    s.serve code fits f = s ∨
    ∃ c rest, s.port.commands = c :: rest ∧ s.replyRoom = true ∧ c.code? = some code ∧
      s.serve code fits f =
        if fits c.args.length then f c { s with port.commands := rest }
        else ({ s with port.commands := rest } : State).answer c .badLength [] := by
  cases h : s.port.commands with
  | nil => left; simp [State.serve, h]
  | cons c rest =>
    by_cases hc : s.replyRoom = true ∧ c.code? = some code
    · right; exact ⟨c, rest, rfl, hc.1, hc.2, by simp [State.serve, h, hc]⟩
    · left; simp only [State.serve, h, if_neg hc]

/-- The dispatcher hands over a command of the right code and length when the REPLY class has room. -/
theorem State.serve_eq {s : State} {code : Byte} {fits : Nat → Bool} (f : Command → State → State) {tag : Byte}
    {args : List Byte} {rest : List Command} (hc : s.port.commands = ⟨tag, code :: args⟩ :: rest)
    (hr : s.replyRoom = true) (hf : fits args.length = true) :
    s.serve code fits f = f ⟨tag, code :: args⟩ { s with port.commands := rest } := by
  simp [State.serve, hc, hr, Command.code?, Command.args, hf]

/-- A part of the state that neither the command queue nor a reply nor the owner touches is kept by the dispatcher. -/
theorem State.serve_keeps {α : Type} (g : State → α) (s : State) (code : Byte) (fits : Nat → Bool)
    (f : Command → State → State) (hq : ∀ (s : State) (l : List Command), g { s with port.commands := l } = g s)
    (ha : ∀ (s : State) (c : Command) (st : Status) (l : List Byte), g (s.answer c st l) = g s)
    (hf : ∀ (c : Command) (s : State), g (f c s) = g s) : g (s.serve code fits f) = g s := by
  rcases s.serve_cases code fits f with h | ⟨c, rest, -, -, -, h⟩
  · rw [h]
  · rw [h]; split
    · rw [hf, hq]
    · rw [ha, hq]

/-- A property that taking a command, a BAD_LENGTH reply and the owner keep is kept by the dispatcher. -/
theorem State.serve_preserves (P : State → Prop) {s : State} {code : Byte} {fits : Nat → Bool}
    {f : Command → State → State} (hs : P s)
    (hq : ∀ c rest, s.port.commands = c :: rest → s.replyRoom = true →
      P (({ s with port.commands := rest } : State).answer c .badLength []) ∧ P (f c { s with port.commands := rest })) :
    P (s.serve code fits f) := by
  rcases s.serve_cases code fits f with h | ⟨c, rest, hc, hr, -, h⟩
  · rw [h]; exact hs
  · rw [h]; split
    · exact (hq c rest hc hr).2
    · exact (hq c rest hc hr).1

end Sys2Proof.Machine
end

