-- ==== Sys2Proof/Laws/Advance.lean ====
section
/-!
SUPPORT. What the passing of time leaves alone in the parts that are read by name, and what a part read by name is
after it has been set twice; with the dispatcher's law for a state in which time has passed.
-/

namespace Sys2Proof.Machine

@[simp] theorem State.setHead_setHead (s : State) (h : Head) (x y : HeadState) :
    (s.setHead h x).setHead h y = s.setHead h y := by
  cases h <;> rfl

@[simp] theorem HeadState.setLine_setLine (hs : HeadState) (c : Coil) (x y : CoilLine) :
    (hs.setLine c x).setLine c y = hs.setLine c y := by
  cases c <;> rfl

@[simp] theorem State.advance_line (s : State) (dt : Time) (h : Head) (c : Coil) :
    ((s.advance dt).head h).line c = (s.head h).line c := by
  cases h <;> cases c <;> rfl

@[simp] theorem State.advance_head (s : State) (dt : Time) (h : Head) :
    (s.advance dt).head h = { s.head h with busy := (s.head h).busy - dt.toNat } := by
  cases h <;> rfl

@[simp] theorem State.advance_entryCount (s : State) (dt : Time) : (s.advance dt).entryCount = s.entryCount := by
  unfold State.entryCount
  change (match s.session.entryHead with | some h => ((s.advance dt).head h).count | none => 0) = _
  cases s.session.entryHead with
  | none => rfl
  | some h => cases h <;> rfl

@[simp] theorem State.advance_exitCount (s : State) (dt : Time) : (s.advance dt).exitCount = s.exitCount := by
  unfold State.exitCount
  change (match s.session.entryHead with | some h => ((s.advance dt).head (otherHead h)).count | none => 0) = _
  cases s.session.entryHead with
  | none => rfl
  | some h => cases h <;> rfl

/-- The dispatcher's law after time has passed. -/
theorem State.serve_advance {s : State} (dt : Time) {code : Byte} {fits : Nat → Bool} (f : Command → State → State)
    {tag : Byte} {args : List Byte} {rest : List Command} (hc : s.port.commands = ⟨tag, code :: args⟩ :: rest)
    (hr : s.replyRoom = true) (hf : fits args.length = true) :
    (s.advance dt).serve code fits f = f ⟨tag, code :: args⟩ { s.advance dt with port.commands := rest } :=
  State.serve_eq f (s := s.advance dt) hc hr hf

theorem Vec.map_get {α β : Type} {n : Nat} (f : α → β) (v : Vector α n) (i : Fin n) : (Vec.map f v)[i] = f v[i] := by
  simp [Vec.map]

end Sys2Proof.Machine
end

