-- ==== Sys2Proof/Laws/Fields.lean ====
section
/-!
SUPPORT. What a little-endian field is as a number.
-/

namespace Sys2Proof.Machine

theorem toNat_append_bytes (hi lo : Byte) : (hi ++ lo).toNat = lo.toNat + 256 * hi.toNat := by
  have := lo.isLt
  rw [BitVec.toNat_append, ← Nat.shiftLeft_add_eq_or_of_lt (by omega), Nat.shiftLeft_eq]
  omega

/-- A 16-bit field of the first two bytes. -/
theorem u16_cons (lo hi : Byte) (l : List Byte) : u16 (lo :: hi :: l) 0 = lo.toNat + 256 * hi.toNat := by
  simpa [u16, half, byteAt] using toNat_append_bytes hi lo

end Sys2Proof.Machine
end

