-- ==== Sys2Proof/Laws/Arithmetic.lean ====
section
/-!
SUPPORT. What the shared sums, maxima, fields and line events are: one lemma for each.
-/

namespace Sys2Proof.Machine

theorem sumInt_eq_sum (l : List Int) : sumInt l = l.sum := by
  have h : ∀ (l : List Int) (a : Int), l.foldl (· + ·) a = a + l.sum := by
    intro l
    induction l with
    | nil => simp
    | cons x l ih => intro a; simp [ih, Int.add_assoc]
  simpa [sumInt] using h l 0

/-- The maximum of a list is its greatest member, and there is none exactly for the empty list. -/
theorem maxInt_eq_some_iff (l : List Int) (m : Int) : maxInt l = some m ↔ m ∈ l ∧ ∀ x ∈ l, x ≤ m := by
  induction l generalizing m with
  | nil => simp [maxInt]
  | cons x l ih =>
    cases h : maxInt l with
    | none =>
      have : l = [] := by
        cases l with
        | nil => rfl
        | cons y l => simp only [maxInt] at h; split at h <;> cases h
      subst this
      simp [maxInt, eq_comm]
      omega
    | some n =>
      have hn := (ih n).1 h
      simp only [maxInt, h, Option.some.injEq, List.mem_cons, forall_eq_or_imp]
      constructor
      · rintro rfl
        refine ⟨?_, by omega, fun y hy => by have := hn.2 y hy; omega⟩
        rcases max_choice x n with e | e <;> rw [e]
        · exact Or.inl rfl
        · exact Or.inr hn.1
      · rintro ⟨rfl | hm, hx, hl⟩
        · have := hl n hn.1; omega
        · have := hl n hn.1; have := hn.2 m hm; omega

theorem maxInt_eq_none_iff (l : List Int) : maxInt l = none ↔ l = [] := by
  cases l with
  | nil => simp [maxInt]
  | cons x l => simp only [maxInt]; split <;> simp

/-- A clamped value lies between its limits. -/
theorem clamp_bounds {lo hi : Int} (x : Int) (h : lo ≤ hi) : lo ≤ clamp lo hi x ∧ clamp lo hi x ≤ hi := by
  unfold clamp; split
  · omega
  · split <;> omega

/-- A 16-bit field by its two bytes. -/
theorem u16_eq (l : List Byte) (i : Nat) : u16 l i = u8 l i + 256 * u8 l (i + 1) := toNat_append_bytes _ _

@[simp] theorem Work.lineEnded_ident (now : Time) (k : NodeAddr) (t : Option Time) :
    (Work.ident k t).lineEnded now = .ident k t := rfl

@[simp] theorem Work.lineEnded_poll_unsent (now : Time) (t : Option Time) :
    (Work.poll false t).lineEnded now = .poll false t := rfl

@[simp] theorem Work.lineEnded_poll_sent (now : Time) : (Work.poll true none).lineEnded now = .poll true (some now) := rfl

@[simp] theorem Work.lineEnded_poll_ended (now t : Time) :
    (Work.poll true (some t)).lineEnded now = .poll true (some t) := rfl

@[simp] theorem Work.lineEnded_status (now : Time) (k : NodeAddr) (t : Option Time) :
    (Work.status k t).lineEnded now = .status k t := rfl

@[simp] theorem Work.lineEnded_item (now : Time) (t : Option Time) : (Work.item t).lineEnded now = .item t := rfl

end Sys2Proof.Machine
end

