-- ==== Sys2Proof/Laws/Crossings.lean ====
section
/-!
SUPPORT. Everything that applying a crossing does to the heads, to the session and to the exit pulse (R14, R15, R27,
R147): one lemma per part, which later proofs cite in place of the operation's text.
-/

namespace Sys2Proof.Machine

theorem State.raise_heads (s : State) (k : AlertKind) (src : Source) : (s.raise k src).heads = s.heads := by simp

theorem State.head_eq {s t : State} (e : t.heads = s.heads) (g : Head) : t.head g = s.head g := by
  unfold State.head; rw [e]

/-- The first crossing against the session leaves the mark that T2 has been raised, whether it raised it or not. -/
theorem State.noteReversal_session (s : State) (x : Crossing) :
    (s.noteReversal x).session = { s.session with reversalRaised := true } := by
  unfold State.noteReversal
  split
  · next h => rw [← h]
  · simp

theorem State.headFault_head (s : State) (h : Head) :
    (s.headFault h).head h = { s.head h with faults := bump (s.head h).faults } ∧
    ∀ g, g ≠ h → (s.headFault h).head g = s.head g := by
  have e : (s.headFault h).heads = s.heads.set h { s.head h with faults := bump (s.head h).faults } := by
    simp only [State.headFault, State.raise_heads]; rfl
  constructor
  · unfold State.head at *; rw [e]; simp
  · intro g hg; unfold State.head at *; rw [e]; exact PerHead.get_set_ne _ _ hg

/-- The count and the fault count of the crossing's head after it is counted. -/
theorem State.countCrossing_head (s : State) (x : Crossing) (w : Bool) :
    (s.countCrossing x w).head x.head =
      { s.head x.head with
        count := if w then (if maxCount ≤ (s.head x.head).count then (s.head x.head).count else (s.head x.head).count + 1)
          else (s.head x.head).count - 1
        faults := if w = false ∧ (s.head x.head).count = 0 then bump (s.head x.head).faults else (s.head x.head).faults } := by
  simp only [State.countCrossing]
  split
  · next h =>
    subst h
    split
    · simp
    · split <;> (rw [State.head_eq (s := s.setCount x.head ((s.head x.head).count + 1)) (by simp)]; simp [State.setCount])
  · next h =>
    have hw : w = false := by simpa using h
    subst hw
    split
    · next h2 => rw [(s.headFault_head x.head).1]; simp [h2]
    · next h2 =>
      split <;> (rw [State.head_eq (s := s.setCount x.head ((s.head x.head).count - 1)) (by simp)]; simp [h2, State.setCount])

/-- The other head is left alone. -/
theorem State.countCrossing_other (s : State) (x : Crossing) (w : Bool) {g : Head} (hg : g ≠ x.head) :
    (s.countCrossing x w).head g = s.head g := by
  have up : (s.setCount x.head ((s.head x.head).count + 1)).head g = s.head g := s.head_setHead_ne _ hg
  have down : (s.setCount x.head ((s.head x.head).count - 1)).head g = s.head g := s.head_setHead_ne _ hg
  simp only [State.countCrossing]
  repeat' split
  · rfl
  · exact (State.head_eq (State.entryRise_frame _ _ _).2.1 g).trans up
  · exact (State.head_eq (State.exitRise_frame _ _ _).2.1 g).trans up
  · exact (s.headFault_head x.head).2 g hg
  · exact (State.head_eq (State.entryFall_frame _ _).2.1 g).trans down
  · exact (State.head_eq (State.exitFall_frame _ _).2.1 g).trans down

theorem State.placePulse_exitPulse (s : State) (p : CameraPulse) :
    (s.placePulse p).gate.exitPulse = s.gate.exitPulse := by
  unfold State.placePulse State.startPulse State.writeCamera
  repeat' split
  all_goals simp

theorem State.scheduleCamera_exitPulse (s : State) (k : Nat) (x : Crossing) :
    (s.scheduleCamera k x).gate.exitPulse = s.gate.exitPulse := by
  unfold State.scheduleCamera
  repeat' split
  all_goals first | rfl | exact s.placePulse_exitPulse _

theorem State.newOrdinal_gate (s : State) (k : Nat) (x : Crossing) : (s.newOrdinal k x).gate = s.gate := by
  unfold State.newOrdinal
  repeat' split
  all_goals simp

theorem State.entryRise_exitPulse (s : State) (k : Nat) (x : Crossing) :
    (s.entryRise k x).gate.exitPulse = s.gate.exitPulse := by
  unfold State.entryRise State.countMismatch
  repeat' split
  all_goals simp [State.scheduleCamera_exitPulse]

theorem State.countCrossing_exitPulse (s : State) (x : Crossing) (w : Bool) :
    (s.countCrossing x w).gate.exitPulse = s.gate.exitPulse := by
  simp only [State.countCrossing]
  repeat' split
  all_goals simp [State.entryRise_exitPulse, State.setCount]

/-- The session, the heads, the Axle Table and the exit pulse right after an opening. -/
theorem State.openSession_parts (s : State) (st : SessionState) (b : Bool) :
    (s.openSession st b).session =
      { s.session.stopTimers with
        state := st
        seq := s.session.seq + 1
        record := { seq := s.session.seq + 1, openTime := some s.clock, noApproach := b,
                    incompleteStart := s.session.heldDiscarded,
                    notSettledStart := decide (s.session.settleState ≠ .settled) }
        entryHead := none
        reversalRaised := false
        arm := if st = .armed then s.armTimer else none
        standstill := if st = .inTrain then s.standstillTimer else none
        rememberedApproach := false
        heldDiscarded := false } ∧
    (s.openSession st b).heads = ⟨{ s.heads.a with count := 0 }, { s.heads.b with count := 0 }⟩ ∧
    (s.openSession st b).axles = { tableSeq := s.session.seq + 1 } ∧ (s.openSession st b).gate = s.gate := by
  and_intros <;> simp only [State.openSession, State.openEndsTransaction_frame, State.emptyBlocks_frame]

/-- Applying a crossing after the first of its session. -/
theorem State.applyCrossing_later {s : State} {g : Head} (h : s.session.entryHead = some g) (x : Crossing) :
    s.applyCrossing x =
      let w := decide (s.session.record.direction = some x.dir)
      let c := (if w then s else s.noteReversal x).countCrossing x w
      ({ (if w && decide (g ≠ x.head) then c.requestExitPulse else c) with
        session.record.lastCrossing := some x.time } : State).enterInTrain := by
  have hw : s.isWith x = decide (s.session.record.direction = some x.dir) := by simp [State.isWith, h]
  have hn : (s.noteReversal x).session.entryHead = some g := by rw [s.noteReversal_session x, ← h]
  simp only [State.applyCrossing, hw, h, Option.isNone_some, Bool.false_eq_true, if_false]
  cases hd : decide (s.session.record.direction = some x.dir) <;> simp [h]

/-- Applying the first crossing of a session: with the session, at the entry head. -/
theorem State.applyCrossing_first {s : State} (h : s.session.entryHead = none) (x : Crossing) :
    s.applyCrossing x =
      ({ (s.fixEntry x).countCrossing x true with session.record.lastCrossing := some x.time } : State).enterInTrain := by
  have hw : s.isWith x = true := by simp [State.isWith, h]
  have hf : (s.fixEntry x).session.entryHead = some x.head := rfl
  simp [State.applyCrossing, hw, h, hf]

/-- The session after IN_TRAIN is entered: of the five session timers the standstill timer alone runs, from now. -/
theorem State.enterInTrain_session (s : State) :
    s.enterInTrain.session = { s.session.stopTimers with state := .inTrain, standstill := s.standstillTimer } := rfl

/-- The session after a later crossing is applied. -/
theorem State.applyCrossing_later_session {s : State} {g : Head} (h : s.session.entryHead = some g) (x : Crossing) :
    (s.applyCrossing x).session =
      { s.session.stopTimers with
        reversalRaised := s.session.reversalRaised || decide (s.session.record.direction ≠ some x.dir)
        record := { s.session.record with lastCrossing := some x.time }
        state := .inTrain
        standstill := s.standstillTimer } := by
  rw [State.applyCrossing_later h]
  simp only [State.enterInTrain_session]
  by_cases hd : s.session.record.direction = some x.dir <;> by_cases hg : g = x.head <;>
    simp [hd, hg, State.requestExitPulse, State.standstillTimer, State.timer, State.constant, State.site,
      State.noteReversal_session, SessionCtl.stopTimers]

end Sys2Proof.Machine
end

