-- ==== Sys2Proof/Laws/PerInstr.lean ====
section
/-!
SUPPORT. Statements made once per command of the table.
-/

namespace Sys2Proof.Laws

/-- The time operand is one operand among the others: writing it back changes nothing, a new one is read back, and
well-formedness does not depend on it. -/
def TimeOperand.Statement (i : Instr) : Prop :=
  Instr.retime i.dt i = i ∧ (∀ d, i ≠ .powerOn → (Instr.retime d i).dt = d) ∧ ∀ d, (Instr.retime d i).wellFormed = i.wellFormed

theorem TimeOperand.powerOn : TimeOperand.Statement .powerOn := ⟨rfl, fun _ h => absurd rfl h, fun _ => rfl⟩

theorem TimeOperand.coilPinTransition (dt : Time) (h : Head) (c : Coil) (occupied : Bool) :
    TimeOperand.Statement (.coilPinTransition dt h c occupied) :=
  ⟨rfl, fun _ _ => rfl, fun _ => rfl⟩

theorem TimeOperand.candidateCommit (dt : Time) (h : Head) (c : Coil) :
    TimeOperand.Statement (.candidateCommit dt h c) :=
  ⟨rfl, fun _ _ => rfl, fun _ => rfl⟩

theorem TimeOperand.coilEdge (dt : Time) (h : Head) (c : Coil) :
    TimeOperand.Statement (.coilEdge dt h c) :=
  ⟨rfl, fun _ _ => rfl, fun _ => rfl⟩

theorem TimeOperand.decoderStep (dt : Time) (h : Head) :
    TimeOperand.Statement (.decoderStep dt h) :=
  ⟨rfl, fun _ _ => rfl, fun _ => rfl⟩

theorem TimeOperand.crossing (dt : Time) (h : Head) :
    TimeOperand.Statement (.crossing dt h) :=
  ⟨rfl, fun _ _ => rfl, fun _ => rfl⟩

theorem TimeOperand.approachPinChange (dt : Time) (i : Approach) (asserted : Bool) :
    TimeOperand.Statement (.approachPinChange dt i asserted) :=
  ⟨rfl, fun _ _ => rfl, fun _ => rfl⟩

theorem TimeOperand.approachEdge (dt : Time) (i : Approach) :
    TimeOperand.Statement (.approachEdge dt i) :=
  ⟨rfl, fun _ _ => rfl, fun _ => rfl⟩

theorem TimeOperand.armExpiry (dt : Time) :
    TimeOperand.Statement (.armExpiry dt) :=
  ⟨rfl, fun _ _ => rfl, fun _ => rfl⟩

theorem TimeOperand.standstillExpiry (dt : Time) :
    TimeOperand.Statement (.standstillExpiry dt) :=
  ⟨rfl, fun _ _ => rfl, fun _ => rfl⟩

theorem TimeOperand.clearExpiry (dt : Time) :
    TimeOperand.Statement (.clearExpiry dt) :=
  ⟨rfl, fun _ _ => rfl, fun _ => rfl⟩

theorem TimeOperand.abandonExpiry (dt : Time) :
    TimeOperand.Statement (.abandonExpiry dt) :=
  ⟨rfl, fun _ _ => rfl, fun _ => rfl⟩

theorem TimeOperand.idleExpiry (dt : Time) :
    TimeOperand.Statement (.idleExpiry dt) :=
  ⟨rfl, fun _ _ => rfl, fun _ => rfl⟩

theorem TimeOperand.settleExpiry (dt : Time) :
    TimeOperand.Statement (.settleExpiry dt) :=
  ⟨rfl, fun _ _ => rfl, fun _ => rfl⟩

theorem TimeOperand.axleOverdue (dt : Time) (ordinal : Nat) :
    TimeOperand.Statement (.axleOverdue dt ordinal) :=
  ⟨rfl, fun _ _ => rfl, fun _ => rfl⟩

theorem TimeOperand.closeMeasurementsDone (dt : Time) :
    TimeOperand.Statement (.closeMeasurementsDone dt) :=
  ⟨rfl, fun _ _ => rfl, fun _ => rfl⟩

theorem TimeOperand.reportCopyComplete (dt : Time) :
    TimeOperand.Statement (.reportCopyComplete dt) :=
  ⟨rfl, fun _ _ => rfl, fun _ => rfl⟩

theorem TimeOperand.bayRead (dt : Time) (ordinal : Nat) (rail : Rail) (bay : BayNo) :
    TimeOperand.Statement (.bayRead dt ordinal rail bay) :=
  ⟨rfl, fun _ _ => rfl, fun _ => rfl⟩

theorem TimeOperand.loadReadLimit (dt : Time) (ordinal : Nat) :
    TimeOperand.Statement (.loadReadLimit dt ordinal) :=
  ⟨rfl, fun _ _ => rfl, fun _ => rfl⟩

theorem TimeOperand.loadPartComplete (dt : Time) (ordinal : Nat) :
    TimeOperand.Statement (.loadPartComplete dt ordinal) :=
  ⟨rfl, fun _ _ => rfl, fun _ => rfl⟩

theorem TimeOperand.scannerRead (dt : Time) (ordinal : Nat) (rail : Rail) :
    TimeOperand.Statement (.scannerRead dt ordinal rail) :=
  ⟨rfl, fun _ _ => rfl, fun _ => rfl⟩

theorem TimeOperand.bearingReadLimit (dt : Time) (ordinal : Nat) :
    TimeOperand.Statement (.bearingReadLimit dt ordinal) :=
  ⟨rfl, fun _ _ => rfl, fun _ => rfl⟩

theorem TimeOperand.bearingPartComplete (dt : Time) (ordinal : Nat) :
    TimeOperand.Statement (.bearingPartComplete dt ordinal) :=
  ⟨rfl, fun _ _ => rfl, fun _ => rfl⟩

theorem TimeOperand.segmentationRun (dt : Time) :
    TimeOperand.Statement (.segmentationRun dt) :=
  ⟨rfl, fun _ _ => rfl, fun _ => rfl⟩

theorem TimeOperand.cameraPulseStart (dt : Time) :
    TimeOperand.Statement (.cameraPulseStart dt) :=
  ⟨rfl, fun _ _ => rfl, fun _ => rfl⟩

theorem TimeOperand.cameraPulseEnd (dt : Time) :
    TimeOperand.Statement (.cameraPulseEnd dt) :=
  ⟨rfl, fun _ _ => rfl, fun _ => rfl⟩

theorem TimeOperand.exitPulseEnd (dt : Time) :
    TimeOperand.Statement (.exitPulseEnd dt) :=
  ⟨rfl, fun _ _ => rfl, fun _ => rfl⟩

theorem TimeOperand.timeMark (dt : Time) : TimeOperand.Statement (.timeMark dt) :=
  ⟨rfl, fun _ _ => rfl, fun _ => rfl⟩

theorem TimeOperand.downstreamSend (dt : Time) :
    TimeOperand.Statement (.downstreamSend dt) :=
  ⟨rfl, fun _ _ => rfl, fun _ => rfl⟩

theorem TimeOperand.samples (dt : Time) (frame : List Byte) :
    TimeOperand.Statement (.samples dt frame) :=
  ⟨rfl, fun _ _ => rfl, fun _ => rfl⟩

theorem TimeOperand.autozeroBlockEnd (dt : Time) (index : ChanIdx) :
    TimeOperand.Statement (.autozeroBlockEnd dt index) :=
  ⟨rfl, fun _ _ => rfl, fun _ => rfl⟩

theorem TimeOperand.identAnswer (dt : Time) (frame : List Byte) :
    TimeOperand.Statement (.identAnswer dt frame) :=
  ⟨rfl, fun _ _ => rfl, fun _ => rfl⟩

theorem TimeOperand.pollAnswer (dt : Time) (frame : List Byte) :
    TimeOperand.Statement (.pollAnswer dt frame) :=
  ⟨rfl, fun _ _ => rfl, fun _ => rfl⟩

theorem TimeOperand.statusAnswer (dt : Time) (frame : List Byte) :
    TimeOperand.Statement (.statusAnswer dt frame) :=
  ⟨rfl, fun _ _ => rfl, fun _ => rfl⟩

theorem TimeOperand.itemAnswer (dt : Time) (frame : List Byte) :
    TimeOperand.Statement (.itemAnswer dt frame) :=
  ⟨rfl, fun _ _ => rfl, fun _ => rfl⟩

theorem TimeOperand.upstreamDiscard (dt : Time) (frame : List Byte) :
    TimeOperand.Statement (.upstreamDiscard dt frame) :=
  ⟨rfl, fun _ _ => rfl, fun _ => rfl⟩

theorem TimeOperand.nodeSilence (dt : Time) (node : NodeAddr) :
    TimeOperand.Statement (.nodeSilence dt node) :=
  ⟨rfl, fun _ _ => rfl, fun _ => rfl⟩

theorem TimeOperand.ident (dt : Time) : TimeOperand.Statement (.ident dt) :=
  ⟨rfl, fun _ _ => rfl, fun _ => rfl⟩

theorem TimeOperand.identTimeout (dt : Time) :
    TimeOperand.Statement (.identTimeout dt) :=
  ⟨rfl, fun _ _ => rfl, fun _ => rfl⟩

theorem TimeOperand.poll (dt : Time) : TimeOperand.Statement (.poll dt) :=
  ⟨rfl, fun _ _ => rfl, fun _ => rfl⟩

theorem TimeOperand.pollEnd (dt : Time) : TimeOperand.Statement (.pollEnd dt) :=
  ⟨rfl, fun _ _ => rfl, fun _ => rfl⟩

theorem TimeOperand.statusRequest (dt : Time) :
    TimeOperand.Statement (.statusRequest dt) :=
  ⟨rfl, fun _ _ => rfl, fun _ => rfl⟩

theorem TimeOperand.statusReadTimeout (dt : Time) :
    TimeOperand.Statement (.statusReadTimeout dt) :=
  ⟨rfl, fun _ _ => rfl, fun _ => rfl⟩

theorem TimeOperand.transactionBegin (dt : Time) :
    TimeOperand.Statement (.transactionBegin dt) :=
  ⟨rfl, fun _ _ => rfl, fun _ => rfl⟩

theorem TimeOperand.itemTimeout (dt : Time) :
    TimeOperand.Statement (.itemTimeout dt) :=
  ⟨rfl, fun _ _ => rfl, fun _ => rfl⟩

theorem TimeOperand.ringExpiry (dt : Time) (index : ChanIdx) :
    TimeOperand.Statement (.ringExpiry dt index) :=
  ⟨rfl, fun _ _ => rfl, fun _ => rfl⟩

theorem TimeOperand.stationFrameReceive (dt : Time) (frame : List Byte) :
    TimeOperand.Statement (.stationFrameReceive dt frame) :=
  ⟨rfl, fun _ _ => rfl, fun _ => rfl⟩

theorem TimeOperand.unknownCommand (dt : Time) :
    TimeOperand.Statement (.unknownCommand dt) :=
  ⟨rfl, fun _ _ => rfl, fun _ => rfl⟩

theorem TimeOperand.loadTable (dt : Time) :
    TimeOperand.Statement (.loadTable dt) :=
  ⟨rfl, fun _ _ => rfl, fun _ => rfl⟩

theorem TimeOperand.readTable (dt : Time) :
    TimeOperand.Statement (.readTable dt) :=
  ⟨rfl, fun _ _ => rfl, fun _ => rfl⟩

theorem TimeOperand.describe (dt : Time) : TimeOperand.Statement (.describe dt) :=
  ⟨rfl, fun _ _ => rfl, fun _ => rfl⟩

theorem TimeOperand.readStatus (dt : Time) :
    TimeOperand.Statement (.readStatus dt) :=
  ⟨rfl, fun _ _ => rfl, fun _ => rfl⟩

theorem TimeOperand.siteReset (dt : Time) :
    TimeOperand.Statement (.siteReset dt) :=
  ⟨rfl, fun _ _ => rfl, fun _ => rfl⟩

theorem TimeOperand.standby (dt : Time) : TimeOperand.Statement (.standby dt) :=
  ⟨rfl, fun _ _ => rfl, fun _ => rfl⟩

theorem TimeOperand.wake (dt : Time) : TimeOperand.Statement (.wake dt) :=
  ⟨rfl, fun _ _ => rfl, fun _ => rfl⟩

theorem TimeOperand.closeTrain (dt : Time) :
    TimeOperand.Statement (.closeTrain dt) :=
  ⟨rfl, fun _ _ => rfl, fun _ => rfl⟩

theorem TimeOperand.readAxle (dt : Time) : TimeOperand.Statement (.readAxle dt) :=
  ⟨rfl, fun _ _ => rfl, fun _ => rfl⟩

theorem TimeOperand.nodeTransaction (dt : Time) :
    TimeOperand.Statement (.nodeTransaction dt) :=
  ⟨rfl, fun _ _ => rfl, fun _ => rfl⟩

theorem TimeOperand.topAlert (dt : Time) : TimeOperand.Statement (.topAlert dt) :=
  ⟨rfl, fun _ _ => rfl, fun _ => rfl⟩

theorem TimeOperand.clearAlert (dt : Time) :
    TimeOperand.Statement (.clearAlert dt) :=
  ⟨rfl, fun _ _ => rfl, fun _ => rfl⟩

theorem TimeOperand.setAlertEnable (dt : Time) :
    TimeOperand.Statement (.setAlertEnable dt) :=
  ⟨rfl, fun _ _ => rfl, fun _ => rfl⟩

theorem TimeOperand.reportDirectory (dt : Time) :
    TimeOperand.Statement (.reportDirectory dt) :=
  ⟨rfl, fun _ _ => rfl, fun _ => rfl⟩

theorem TimeOperand.readReport (dt : Time) :
    TimeOperand.Statement (.readReport dt) :=
  ⟨rfl, fun _ _ => rfl, fun _ => rfl⟩

theorem TimeOperand.abortReadout (dt : Time) :
    TimeOperand.Statement (.abortReadout dt) :=
  ⟨rfl, fun _ _ => rfl, fun _ => rfl⟩

theorem TimeOperand.releaseReport (dt : Time) :
    TimeOperand.Statement (.releaseReport dt) :=
  ⟨rfl, fun _ _ => rfl, fun _ => rfl⟩

theorem TimeOperand.reportData (dt : Time) :
    TimeOperand.Statement (.reportData dt) :=
  ⟨rfl, fun _ _ => rfl, fun _ => rfl⟩

theorem TimeOperand.heldReply (dt : Time) :
    TimeOperand.Statement (.heldReply dt) :=
  ⟨rfl, fun _ _ => rfl, fun _ => rfl⟩

theorem TimeOperand.transmitArbiter (dt : Time) :
    TimeOperand.Statement (.transmitArbiter dt) :=
  ⟨rfl, fun _ _ => rfl, fun _ => rfl⟩

end Sys2Proof.Laws
end

