-- ==== Sys2Proof/Tests/Slice0.lean ====
section
/-!
SUPPORT. The model's own tests: ill-formed commands refused, worked examples of the spec, and for every statement with
hypotheses a concrete state and operands that meet them.
-/

namespace Sys2Proof.Tests

open Sys2Proof Sys2Proof.Machine

/-! ## Well-formedness: one ill-formed term for each check -/

/-- An upstream node frame with its check sequence. -/
def up (kind node srq : Byte) (payload : List Byte) : List Byte :=
  withCrc ([kind, node, srq, BitVec.ofNat 8 payload.length] ++ payload)

/-- An inbound COMMAND frame with its check sequence. -/
def inbound (payload : List Byte) : List Byte := withCrc ([0x01, 9] ++ le2 payload.length ++ payload)

def pollAnswerFrame : List Byte := up 0x83 1 0 []
def identFrame : List Byte := up 0x82 1 0 [1, 0, 0, 0, 0]
def acceptFrame : List Byte := up 0x85 1 0 [0, 5, 0]
def refuseFrame : List Byte := up 0x85 1 0 [1, 0, 0]
def noFaultsFrame : List Byte := up 0x84 1 0 [0]
def oneFaultFrame : List Byte := up 0x84 1 0 [1, 2, 1]
def samplesFrame : List Byte := up 0x81 1 1 ([232, 3, 0, 0, 1, 8] ++ List.replicate 32 0)

theorem test_ill_formed_ordinals :
    [Instr.axleOverdue 0 0, .bayRead 0 1025 .r1 0, .loadReadLimit 0 0, .loadPartComplete 0 1025, .scannerRead 0 0 .r2,
     .bearingReadLimit 0 1025, .bearingPartComplete 0 0].all (fun i => !i.wellFormed) = true := by decide

theorem test_ill_formed_frames :
    [Instr.samples 0 [], .identAnswer 0 pollAnswerFrame, .pollAnswer 0 identFrame, .statusAnswer 0 acceptFrame,
     .itemAnswer 0 noFaultsFrame, .upstreamDiscard 0 pollAnswerFrame].all (fun i => !i.wellFormed) = true := by decide +kernel

theorem test_ill_formed_long_discard : (Instr.upstreamDiscard 0 (List.replicate 262 0)).wellFormed = false := by
  decide +kernel

theorem test_ill_formed_long_station_frame (l : List Byte) (h : l.length = 65542) :
    (Instr.stationFrameReceive 0 l).wellFormed = false := by
  simp [Instr.wellFormed, longestStationFrame, h]

theorem test_well_formed_frames :
    [Instr.samples 0 samplesFrame, .identAnswer 0 identFrame, .pollAnswer 0 pollAnswerFrame,
     .statusAnswer 0 oneFaultFrame, .itemAnswer 0 refuseFrame, .axleOverdue 0 1024].all (·.wellFormed) = true := by decide +kernel

/-! ## Worked examples of the spec -/

/-- R177: the sum of the digits 1 to 9 under these parameters is 29B1h. -/
theorem test_crc : crc16 [0x31, 0x32, 0x33, 0x34, 0x35, 0x36, 0x37, 0x38, 0x39] = 0x29B1#16 := by decide +kernel

/-- R87 and section 5.11. -/
theorem test_force : forceOf 210 512 14610#16 = 1800 ∧ forceOf 210 512 0x8000#16 = -1000 ∧ forceOf 210 512 22010#16 = 2725 := by
  decide

/-- R91, R92. -/
theorem test_means : roundDiv 72110 40 = 1803 ∧ roundDiv 5411 3 = 1804 ∧ roundDiv (-12) 8 = -2 ∧ roundDiv 20 8 = 3 := by
  decide

/-- R94 and section 5.11. -/
theorem test_impact :
    impactIncrement (.present 1804 {}) (.present 2725 {}) = .present 921 {} ∧
    impactRatio (.present 1804 {}) (.present 2725 {}) = .present 151 {} ∧
    impactRatio (.present 1786 {}) (.present 2012 {}) = .present 112 {} ∧
    impactIncrement (.present 40 {}) (.present 160 {}) = .present 120 {} ∧
    impactRatio (.present 40 {}) (.present 160 {}) = .absent .short := by decide

/-- Table 5.7, blocks 1 and 2. -/
theorem test_autozero :
    (ZeroTrack.blockEnd { offset := 210, count := 256, sum := 230 * 256 } 210) = { offset := 213 } ∧
    (ZeroTrack.blockEnd { offset := 213, count := 256, sum := 229 * 256 } 210) = { offset := 215 } ∧
    (ZeroTrack.blockEnd { offset := 700, count := 256, sum := 900 * 256 } 210) = { offset := 722, drift := true } ∧
    (ZeroTrack.blockEnd { offset := 722, drift := true, count := 256, sum := 710 * 256 } 210) = { offset := 720 } := by decide

/-- R89: the windows of the example, forward and reverse. -/
theorem test_windows :
    edges .forward 6000 1200 600 = (1200, 1800) ∧ edges .reverse 6000 1200 600 = (4200, 4800) ∧
    timeAt 1000000 200000 6000 1200 = 1040000 ∧ timeAt 1000000 200000 6000 4800 = 1160000 ∧ trim 20000 50 = 5000 := by
  decide

/-! ## A site, as Table 12.1 gives it -/

def site0 : SiteConstants :=
  { siteId := 7, lab := 6000, coilSpacing := 150, minPulse := 200, standstill := 10, clear := 8, abandon := 20, settle := 8
    arm := 180, idle := 300, bayLength := 600
    bayStart := ⟨#v[some 1200, some 2100, some 3000, some 3900, none, none],
                 #v[some 1200, some 2100, some 3000, some 3900, none, none]⟩
    core := 50, halfWindow := 100, minSpeed := 120, maxSpeed := 1400, impactCritical := 1500, axleLoadCritical := 3900
    scanner := ⟨some 5000, some 5000⟩, bearingCritical := 900, unclassifiedGap := 2500
    gates := #v[.activeHigh, .activeHigh, .activeHigh, .activeLow], g3 := .exitPulse, liveResults := true
    camera := some 300, cameraWidth := 2000 }

/-- The part in IDLE with the site loaded. -/
def idle0 : State :=
  { State.reset with
    session.state := .idle, session.idle := some ⟨0, 300000000⟩, session.seq := 41, session.record.seq := 41
    tables.active.site := some site0 }

/-- An axle record between the heads: entered at its ordinal's second. -/
def rec0 (n : Nat) : AxleRecord :=
  { ordinal := n, entryTime := BitVec.ofNat 32 (n * 1000000), entryInterval := 5000, entrySpeed := .present 1080 {} }

/-- A session in IN_TRAIN with two axles between the heads. -/
def train0 : State :=
  { idle0 with
    clock := 2000000
    session := { state := .inTrain, seq := 42, entryHead := some .a, standstill := some ⟨2000000, 10000000⟩
                 record := { seq := 42, openTime := some 0, direction := some .forward, firstCrossing := some 1000000
                             lastCrossing := some 2000000 } }
    heads := ⟨{ count := 2 }, {}⟩
    axles := { records := [rec0 1, rec0 2], highWater := 2, tableSeq := 42 } }

/-- A state in another session state. -/
def within (st : SessionState) (s : State) : State := { s with session.state := st }

/-- A state with one command waiting at the dispatcher. -/
def asked (s : State) (payload : List Byte) : State := { s with port.commands := [⟨9, payload⟩] }

/-- A crossing of head `h`. -/
def cross0 (h : Head) (d : Direction) : Crossing := { head := h, dir := d, time := 1000000, interval := 5000, speed := .present 1080 {} }

/-- Node 1 in a status, as a LOAD node heard at time 0. -/
def node0 (s : State) (st : NodeStatus) (work : Option Work) : State :=
  { s with
    node.nodes := s.node.nodes.set 0 { status := st, type := some .load, lastFrame := some 0, identPending := false }
    node.work := work }

/-- A LOAD entry of node 1. -/
def load0 : Channel :=
  { node := 0, channel := 0, kind := .load, rail := 1, bay := 1, forward := .never, decimation := 0, offset := 210, gain := 512 }

/-- Channel Table index 5 loaded with it. -/
def withLoad (s : State) : State :=
  { s with
    tables.active.channels := s.tables.active.channels.set 5 (.valid load0)
    load.zero := s.load.zero.set 5 (some { offset := 210 }) }

/-- R16 and R18: the examples. -/
theorem test_speed_and_spacing :
    axleSpeed (some site0) false 200000 = .present 1080 {} ∧
    spacingOf (some site0) { rec0 1 with entryTime := 1000000, exitTime := some 1200000 }
      { rec0 2 with entryTime := 1060000, exitTime := some 1260400 } = .present 1798 {} := by decide

/-- R149: the fire times of the worked camera. -/
theorem test_fire_times :
    fireTime site0 .forward 300 { cross0 .a .forward with time := 5000000 } = 5010000 ∧
    fireTime site0 .forward 200 { cross0 .a .forward with time := 5000000 } = 5006666 := by decide

/-- Table 7.5: the axle raises S5 alone in band 2, and nothing in band 1. -/
def axle75 (v : Int) : AxleRecord :=
  { rec0 1 with
    speed := .present v {}
    load := ⟨{ static := .present 1804 {}, increment := .present 921 {}, ratio := .present 151 {} },
             { static := .present 1786 {}, increment := .present 226 {}, ratio := .present 112 {} }⟩
    axleLoad := .present 3590 {}
    bearing := ⟨{ rise := .present 650 {} }, { rise := .present 487 {} }⟩
    sideDiff := .present 163 {} }

def set75 : Threshold :=
  { impact := #v[1100, 1000, 900, 800], ratio := 180, axleLoad := 3700, imbalance := 12, rise := 700, difference := 300
    outlierMargin := 120 }

theorem test_axle_tests : axleRaises set75 {} (axle75 1080) = [.s5] ∧ axleRaises set75 {} (axle75 700) = [] := by decide

/-- Table 7.3's entries, and a train whose spacings are known. -/
def patterns0 (s : State) : State :=
  { s with
    tables.active.patterns := (s.tables.active.patterns.set 0 (.valid
      { cls := 10, n := 4, spacings := [2700, 9300, 2700], tolerance := 80, gap := 2000, set := 1 })).set 1 (.valid
      { cls := 40, n := 4, spacings := [1800, 8200, 1800], tolerance := 60, gap := 1500, set := 2 }) }

def spaced (l : List Int) : List AxleRecord :=
  rec0 1 :: l.zipIdx.map fun x => { rec0 (x.2 + 2) with spacing := .present x.1 {} }

def spacedTrain (l : List Int) : State :=
  patterns0 { train0 with axles.records := spaced l, axles.highWater := l.length + 1, group.notices := 1 }

/-- Table 7.4: WAIT while axle 5 is missing, vehicle 1 once its spacing is known. -/
theorem test_segmentation :
    (spacedTrain [2705, 9290, 2698]).decideVehicle false = .wait ∧
    (spacedTrain [2705, 9290, 2698, 3950]).decideVehicle false = .form (some 10) (some 0) 4 1 ∧
    (spacedTrain [2705, 9290, 2698]).decideVehicle true = .form (some 10) (some 0) 4 1 := by decide

/-- Table 9.6: trains 105 and 106 take slots 1 and 2. -/
def held0 (st : SlotState) (seq : Half) : Slot :=
  { state := st
    report := some { header := { record := { seq }, siteId := 7, truncated := false, entryCount := 0, exitCount := 0
                                 highWater := 0, mismatch := 0, axleCount := 0, vehicleCount := 0, ambient := {}
                                 summary := .replicate 21 0 }
                     axles := [], vehicles := [] } }

def store0 (st : SlotState) : ReportUnit :=
  { slots := #v[held0 .held 101, held0 st 102, held0 .held 103, held0 .held 104], order := [0, 1, 2, 3]
    engine := some { slot := 0, part := .axles, tag := 9, next := 1, granted := 80 }, closed := 4 }

theorem test_slot_choice : (store0 .released).choose = some 1 ∧ (store0 .held).choose = some 1 ∧
    ({ store0 .held with order := [0, 2, 3, 1] } : ReportUnit).choose = some 2 := by decide

/-- Table 11.6 and R177: what LOAD TABLE of the Speed Bands carries is read back as loaded. -/
theorem test_load_bands :
    idle0.checkLoad [2, 0, 1, 0x90, 1, 0x20, 3, 0xB0, 4] = .ok (.bands {}) ∧
    idle0.checkLoad [2, 0, 1, 0x90, 1, 0x20, 3, 0x20, 3] = .range 0 ∧
    idle0.checkLoad [2, 1, 1, 0x90, 1, 0x20, 3, 0xB0, 4] = .range 0 ∧ idle0.checkLoad [2, 0, 1] = .badLength ∧
    idle0.checkLoad ([0, 0, 1] ++ site0.bytes) = .ok (.site site0) := by decide

theorem test_record_sizes :
    (rec0 1).bytes.length = 108 ∧ site0.bytes.length = 70 ∧ load0.bytes.length = 12 ∧ set75.bytes.length = 20 := by decide

/-! ## Witnesses: the hypotheses of each statement, met together -/

theorem witness_StepRunsTheFrontCommand :
    ({ train0 with pending := [.poll 1, .ident 2] } : State).pending = .poll 1 :: [.ident 2] ∧ train0.pending = [] := by
  decide

theorem idle0_sound : idle0.SessionSound := by
  constructor <;> decide

theorem train0_sound : train0.SessionSound := by
  constructor <;> decide

theorem witness_SessionLawsKept : train0.SessionSound ∧ ∃ t, step train0 = .next t := ⟨train0_sound, _, rfl⟩

theorem witness_CapacitiesKept : train0.Bounded ∧ ∃ t, step train0 = .next t :=
  ⟨by constructor <;> first | decide | (constructor <;> decide), _, rfl⟩

theorem train0_axles : train0.AxleTableSound := by
  constructor <;> decide

theorem witness_AxleTableLawKept : train0.AxleTableSound ∧ ∃ t, step train0 = .next t := ⟨train0_axles, _, rfl⟩

/-- A state with one report HELD. -/
def stored0 : State :=
  { train0 with report := { slots := #v[held0 .held 41, {}, {}, {}], order := [0], closed := 1 } }

theorem witness_ReportBalanceKept : stored0.ReportsBalanced ∧ ∃ t, step stored0 = .next t :=
  ⟨⟨fun _ => by decide, by decide⟩, _, rfl⟩

theorem withLoad_channel : ∀ i : ChanIdx, (withLoad idle0).channel? i = if i = 5 then some load0 else none := by decide

theorem witness_TrackedOffsetsKept : (withLoad idle0).OffsetsSound ∧ ∃ t, step (withLoad idle0) = .next t := by
  have hz : ∀ i : ChanIdx, (withLoad idle0).load.zero[i] = if i = 5 then some { offset := 210 } else none := by decide
  refine ⟨⟨?_, ?_, ?_⟩, _, rfl⟩
  · intro i
    rw [hz, withLoad_channel]
    by_cases h : i = 5 <;> simp [h, load0]
  · intro i z e
    rw [hz, withLoad_channel]
    by_cases h : i = 5 <;> simp [h]
    rintro rfl rfl
    decide
  · intro i z
    rw [hz]
    by_cases h : i = 5 <;> simp [h]
    rintro rfl
    decide

/-- A pin of head A's c1 occupied since 1000, its candidate standing. -/
def pulsing (n : Nat) : State :=
  { idle0 with
    clock := 1100
    heads.a.c1 := { pin := true, candidate := some ⟨1000, true, 200⟩, queue := List.replicate n ⟨900, false⟩ } }

theorem witness_PinTransitionsFormCandidates :
    (((idle0.head .a).line .c1).pin ≠ true ∧ ((idle0.head .a).line .c1).candidate = none ∧
      ((idle0.head .a).line .c1).filtered ≠ true) ∧
    (((pulsing 3).head .a).line .c1).pin ≠ false ∧ (((pulsing 3).head .a).line .c1).candidate = some ⟨1000, true, 200⟩ ∧
    ((((pulsing 3).advance 99).clock - 1000).toNat < 200) ∧ (200 ≤ (((pulsing 3).advance 100).clock - 1000).toNat) ∧
    ((((pulsing 3).advance 100).head .a).line .c1).queue.length < 4 := by decide

theorem witness_CandidateIsCommitted :
    ((((pulsing 3).head .a).line .c1).candidate = some ⟨1000, true, 200⟩ ∧ (((pulsing 3).head .a).line .c1).pin = true ∧
      reached ((pulsing 3).clock + 100) (1000 + micros 200) = true ∧ (((pulsing 3).head .a).line .c1).queue.length < 4) ∧
    (((pulsing 4).head .a).line .c1).candidate = some ⟨1000, true, 200⟩ ∧
    (((pulsing 4).head .a).line .c1).queue = ⟨900, false⟩ :: List.replicate 3 ⟨900, false⟩ ∧
    (List.replicate 3 (⟨900, false⟩ : Edge)).length = 3 := by decide

theorem witness_TrackingFollowsTable13 :
    ({} : HeadState).resync = false ∧
    (({ phase2 := true } : HeadState).phaseOf .c1 = false ∧ ({ phase2 := true } : HeadState).phaseOf .c2 = true) ∧
    (({ phase1 := true, phase2 := true } : HeadState).resync = false) ∧
    (({ phase1 := true, passage := some ⟨.forward, 5, none, none, none, false⟩ } : HeadState).passage =
      some ⟨.forward, 5, none, none, none, false⟩) := by decide

/-- Head A with edges of c1 waiting. -/
def waiting (l : List Edge) : State := { idle0 with heads.a.c1.queue := l }

theorem witness_DecoderStepBeginsOrSkips :
    (let s := waiting [⟨5, true⟩]
     (s.head .a).busy ≤ (7#32).toNat ∧ (s.head .a).resync = false ∧ (s.head .a).phase1 = false ∧ (s.head .a).phase2 = false ∧
     (s.head .a).nextCoil = some .c1 ∧ ((s.head .a).line .c1).queue = ⟨5, true⟩ :: [] ∧ (s.advance 7).tieAhead .a ⟨5, true⟩ = false) ∧
    (let s := waiting [⟨5, false⟩, ⟨6, true⟩]
     (s.head .a).busy ≤ (7#32).toNat ∧ (s.head .a).resync = false ∧ (s.head .a).nextCoil = some .c1 ∧
     ((s.head .a).line .c1).queue = ⟨5, false⟩ :: ⟨6, true⟩ :: [] ∧ (s.head .a).phaseOf .c1 = false ∧
     (s.advance 7).tieAhead .a ⟨5, false⟩ = false) := by decide

/-- Head A leaving by c2 at the end of a forward crossing. -/
def leaving : State :=
  { idle0 with
    heads.a := { phase2 := true, c2 := { queue := [⟨9000, false⟩] }
                 passage := some ⟨.forward, 1000, some 6000, some 6000, some 8000, false⟩ } }

theorem witness_FarCoilEmitsTheCrossing :
    (leaving.head .a).busy ≤ (7#32).toNat ∧ (leaving.head .a).resync = false ∧ (leaving.head .a).phase1 = false ∧
    (leaving.head .a).phase2 = true ∧ (leaving.head .a).nextCoil = some .c2 ∧
    ((leaving.head .a).line .c2).queue = ⟨9000, false⟩ :: [] ∧
    (leaving.head .a).passage = some ⟨.forward, 1000, some 6000, some 6000, some 8000, false⟩ ∧
    leaving.site = some site0 ∧ (6000 : Time) ≠ 1000 ∧ (leaving.advance 7).tieAhead .a ⟨9000, false⟩ = false := by decide

/-- An approach input asserted since time 0, in a session state. -/
def approaching (st : SessionState) (lvl : Bool) : State :=
  { within st idle0 with session.apr1 := { pin := lvl, qualified := !lvl, since := some 0 } }

theorem witness_ApproachInputsQualify :
    ((idle0.session.approach .apr1).pin ≠ true ∧ (idle0.session.approach .apr1).since = none) ∧
    (((approaching .idle true).session.approach .apr1).since = some 0 ∧
      reached ((approaching .idle true).clock + 5000) (0 + micros 5000) = true ∧
      ((approaching .idle true).session.approach .apr1).pin = true ∧ (approaching .idle true).session.state = .idle) ∧
    ((approaching .closing true).session.state = .closing ∧ (approaching .standby true).session.state = .standby ∧
      (approaching .stopped true).session.state ∈ [SessionState.notReady, .armed, .inTrain, .stopped, .clearing]) ∧
    ((approaching .idle false).session.approach .apr1).pin = false := by decide

/-- A committed edge handed to the session controller in a session state. -/
def edging (st : SessionState) : State := { within st idle0 with heads.a.c1.toSession := [77] }

theorem witness_CoilEdgeIsTaken :
    ∀ st ∈ [SessionState.inTrain, .stopped, .clearing, .idle, .standby, .notReady, .armed, .closing],
      (((edging st).head .a).line .c1).toSession = 77 :: [] ∧ (edging st).session.state = st := by decide

/-- A crossing waiting at head A of a state. -/
def arrived (s : State) (d : Direction) : State := { s with heads.a.emitted := [cross0 .a d] }

theorem witness_WakeDoes :
    (∀ h : Head, (idle0.head h).passage = none) ∧
    (let s : State := { waiting [⟨5, true⟩] with
       heads.a := { (waiting [⟨5, true⟩]).heads.a with phase1 := true, passage := some ⟨.forward, 1, none, none, none, true⟩ } }
     (s.head .a).passage = some ⟨.forward, 1, none, none, none, true⟩ ∧ (s.head .a).phase1 = true ∧
     (s.head .a).c1.queue ≠ []) := by
  refine ⟨fun h => by cases h <;> rfl, by decide⟩

theorem witness_CrossingOpensASession :
    ((arrived idle0 .forward).head .a).emitted = cross0 .a .forward :: [] ∧ (cross0 .a .forward).head = .a ∧
    (arrived idle0 .forward).session.state = .idle := by decide

theorem witness_CrossingChangesItsCount :
    (∀ d : Direction, d = .forward ∨ d = .reverse → ((arrived train0 d).head .a).emitted = cross0 .a d :: []) ∧
    train0.session.state ∈ [SessionState.armed, .inTrain, .stopped, .clearing] ∧ train0.session.entryHead = some .a ∧
    train0.session.record.direction = some .forward ∧ (train0.head .a).count ≤ 65535 ∧
    ((arrived (within .closing train0) .forward).session.state = .closing ∧ train0.session.held.length < 8 ∧
      8 ≤ ({ train0 with session.held := List.replicate 8 (cross0 .a .forward) } : State).session.held.length) := by
  refine ⟨fun d _ => rfl, ?_⟩
  decide

/-- A state with a session timer running from 0 for a second. -/
def timed (st : SessionState) : State :=
  { within st train0 with
    clock := 999999
    session := { train0.session with
      state := st, standstill := some ⟨0, 1000000⟩, arm := some ⟨0, 1000000⟩, clear := some ⟨0, 1000000⟩
      abandon := some ⟨0, 1000000⟩, idle := some ⟨0, 1000000⟩, settle := some ⟨0, 1000000⟩, settleState := .settling } }

theorem witness_ArmAndStandstillExpire :
    (timed .armed).session.state = .armed ∧ (timed .armed).session.arm = some ⟨0, 1000000⟩ ∧
    reached ((timed .armed).clock + 1) (0 + 1000000) = true ∧ (timed .inTrain).session.state = .inTrain ∧
    (timed .inTrain).session.standstill = some ⟨0, 1000000⟩ ∧ (timed .inTrain).entryCount ≠ (timed .inTrain).exitCount ∧
    ({ timed .inTrain with heads.b.count := 2 } : State).entryCount =
      ({ timed .inTrain with heads.b.count := 2 } : State).exitCount := by decide

theorem witness_OtherTimersExpire :
    (timed .clearing).session.state = .clearing ∧ (timed .clearing).session.clear = some ⟨0, 1000000⟩ ∧
    reached ((timed .clearing).clock + 1) (0 + 1000000) = true ∧ (timed .stopped).session.state = .stopped ∧
    (timed .stopped).session.abandon = some ⟨0, 1000000⟩ ∧ (timed .idle).session.state = .idle ∧
    (timed .idle).session.idle = some ⟨0, 1000000⟩ ∧ (timed .idle).session.settleState = .settling ∧
    (timed .idle).session.settle = some ⟨0, 1000000⟩ := by decide

theorem witness_SessionCommandsAnswer :
    (∀ b : Byte, (asked train0 [b]).port.commands = ⟨9, [b]⟩ :: []) ∧ (asked train0 [8]).replyRoom = true ∧
    train0.session.state = .inTrain ∧ train0.sessionOpen = true ∧ (within .stopped train0).session.state = .stopped ∧
    (within .notReady idle0).session.state = .notReady ∧ (within .standby idle0).session.state = .standby ∧
    idle0.session.state = .idle := ⟨fun _ => rfl, by decide⟩

/-- The train of `train0` with record 1 elsewhere. -/
def standing (p : Position) (st : MeasStatus) : State :=
  { train0 with axles.records := [{ rec0 1 with position := p, status := st }, rec0 2] }

theorem standing_axles (p : Position) (st : MeasStatus) : (standing p st).AxleTableSound :=
  ⟨rfl, rfl, Nat.le_refl 2, by intro h; cases h⟩

theorem witness_EntryRises :
    (train0.axles.highWater < 3 ∧ 3 ≤ 1024) ∧ train0.axles.highWater < 1024 ∧
    (1 ≤ train0.axles.highWater ∧ (standing .beforeEntry .none).record? 1 = some { rec0 1 with position := .beforeEntry }) ∧
    (standing .beyondExit .none).record? 1 = some { rec0 1 with position := .beyondExit } := by decide

theorem witness_EntryFalls :
    (standing .beforeEntry .done).AxleTableSound ∧
    train0.record? 1 = some (rec0 1) ∧ (rec0 1).position = .between ∧
    (standing .beforeEntry .none).record? 1 = some { rec0 1 with position := .beforeEntry } ∧
    (standing .beyondExit .none).record? 1 = some { rec0 1 with position := .beyondExit } ∧ 1024 < 1025 :=
  ⟨standing_axles _ _, by decide⟩

theorem witness_ExitFalls :
    (standing .beyondExit .done).AxleTableSound ∧
    (standing .beyondExit .none).record? 1 = some { rec0 1 with position := .beyondExit } ∧
    (standing .beforeEntry .none).record? 1 = some { rec0 1 with position := .beforeEntry } ∧
    train0.record? 1 = some (rec0 1) ∧ (1024 ≤ 1024 ∧ train0.record? 1024 = none) ∧ 1024 < 1025 :=
  ⟨standing_axles _ _, by decide⟩

theorem witness_ExitRises :
    train0.AxleTableSound ∧ train0.entryCount < 3 ∧ 1 ≤ train0.entryCount ∧ train0.record? 1 = some (rec0 1) ∧
    (rec0 1).position = .between ∧ (rec0 1).status = .none ∧ train0.site = some site0 ∧
    (standing .between .done).record? 1 = some { rec0 1 with status := .done } ∧
    (standing .beyondExit .done).record? 1 = some { rec0 1 with position := .beyondExit, status := .done } :=
  ⟨train0_axles, by decide⟩

theorem witness_SpeedTestsAndSpacing :
    let p : AxleRecord := { rec0 1 with exitTime := some 1200000 }
    let r : AxleRecord := { rec0 2 with exitTime := some 2200000 }
    (p.exitTime = some 1200000 ∧ r.exitTime = some 2200000 ∧ p.headDisagree = false ∧ p.stopFlag = false ∧
      r.headDisagree = false ∧ r.stopFlag = false) ∧
    ({ r with stopFlag := true } : AxleRecord).stopFlag ≠ false ∧
    p.entryInterval.toNat + r.entryInterval.toNat ≠ 0 ∧
    ({ p with entryInterval := 0 } : AxleRecord).entryInterval.toNat + ({ r with entryInterval := 0 } : AxleRecord).entryInterval.toNat = 0 := by
  decide

theorem witness_OverdueAndReadAxle :
    (train0.record? 1 = some (rec0 1) ∧ (rec0 1).status = .none ∧
      reached (train0.clock + 1799000000) ((rec0 1).entryTime + 1800000000) = true ∧ 1 ∉ train0.axles.overdue) ∧
    (∀ lo hi : Byte, (asked train0 [0x09, lo, hi]).port.commands = ⟨9, [0x09, lo, hi]⟩ :: []) ∧
    (asked train0 [0x09, 1, 4]).replyRoom = true ∧ (0#8).toNat + 256 * (0#8).toNat = 0 ∧
    1024 < (1#8).toNat + 256 * (4#8).toNat ∧ train0.record? ((0#8).toNat + 256 * (4#8).toNat) = none :=
  ⟨by decide, fun _ _ => rfl, by decide⟩

/-- A node state with its ready frames. -/
def sending (l : List DownFrame) (w : Option Work) : State := { idle0 with node.ready := l, node.work := w }

theorem witness_MarksAndDownstreamLine :
    reached (idle0.clock + 0) idle0.node.nextMark = true ∧ idle0.node.ready = [] ∧
    (sending [.resume] none).node.ready = .resume :: [] ∧ DownFrame.resume.isRequest = false ∧
    (sending [.ident 0] (some (.ident 0 none))).node.ready = .ident 0 :: [] ∧
    (sending [.ident 0] (some (.ident 0 none))).node.work = some (.ident 0 none) := by decide

theorem witness_IdentificationRuns :
    (idle0.node.work = none ∧ idle0.nextStatus = none ∧ idle0.nextIdent = some 0) ∧
    ((node0 idle0 .online (some (.ident 0 (some 0)))).node.work = some (.ident 0 (some 0)) ∧
      reached (idle0.clock + 2000) (0 + 2000) = true) ∧
    parseUp identFrame = some ⟨0, false, .identAnswer .load []⟩ ∧ idle0.session.power = .active := by decide +kernel

/-- Every node identified, and a poll wanted. -/
def quiet : State :=
  { idle0 with node.nodes := .replicate 6 { identPending := false }, node.pollWanted := true }

theorem witness_PollingRuns :
    (quiet.node.work = none ∧ quiet.nextStatus = none ∧ quiet.nextIdent = none ∧ quiet.node.pollWanted = true) ∧
    ((node0 idle0 .online (some (.poll true (some 0)))).node.work = some (.poll true (some 0)) ∧
      parseUp pollAnswerFrame = some ⟨0, false, .pollAnswer⟩ ∧
      (node0 idle0 .online (some (.poll true (some 0)))).node.nodes[(0 : NodeAddr)].status = .online) ∧
    reached (idle0.clock + 1200) (0 + 1200) = true := by decide +kernel

/-- Node 1 requesting service. -/
def requesting0 : State :=
  { idle0 with node.nodes := idle0.node.nodes.set 0 { status := .online, requesting := true, identPending := false } }

theorem witness_StatusReadsRun :
    (requesting0.node.work = none ∧ requesting0.nextStatus = some 0) ∧ reached (idle0.clock + 2000) (0 + 2000) = true ∧
    (let s := node0 idle0 .fault (some (.status 0 (some 0)))
     s.node.work = some (.status 0 (some 0)) ∧ s.node.nodes[(0 : NodeAddr)].status = .fault ∧ s.session.power = .active) ∧
    parseUp noFaultsFrame = some ⟨0, false, .statusAnswer []⟩ ∧
    parseUp oneFaultFrame = some ⟨0, false, .statusAnswer [⟨some 2, .openCircuit⟩]⟩ ∧
    (node0 idle0 .online (some (.status 0 (some 0)))).node.nodes[(0 : NodeAddr)].faults = [] := by decide +kernel

def item0 : TxItem := { node := 0, register := 3, write := false, value := 0 }

def tx0 (m : TxMode) (w : Bool) : Transaction := { tag := 9, mode := m, disable := true, items := [item0, item0], inFlight := w }

theorem witness_TransactionsBegin :
    (∀ m : TxMode, m = .scan ∨ m = .single →
      let s : State := { quiet with node.pollWanted := false, node.slot := some (tx0 m false) }
      s.node.work = none ∧ s.nextStatus = none ∧ s.nextIdent = none ∧ s.node.pollWanted = false ∧
      s.node.slot = some (tx0 m false) ∧ (tx0 m false).inFlight = false ∧ (tx0 m false).items = item0 :: [item0] ∧
      (tx0 m false).index = 0) ∧
    (node0 quiet .online none).node.nodes[(0 : NodeAddr)].status = .online ∧
    (asked idle0 [0x0A, 0, 0, 1, 6, 3, 1, 5, 0]).port.commands = ⟨9, [0x0A, 0, 0, 1, 6, 3, 1, 5, 0]⟩ :: [] ∧
    txModeOf (0#8).toNat = some .single ∧ (1#8).toNat ≤ 1 ∧ (1 ≤ (6#8).toNat ∧ (6#8).toNat ≤ 6) ∧
    train0.sessionOpen = true ∧ idle0.sessionOpen = false ∧ idle0.node.slot = none ∧
    ({ idle0 with node.slot := some (tx0 .single false) } : State).node.slot ≠ none := by
  refine ⟨?_, by decide⟩
  rintro m (rfl | rfl) <;> decide

/-- The first item of a transaction in flight. -/
def inItem (m : TxMode) : State :=
  { node0 idle0 .online (some (.item (some 0))) with node.slot := some { tx0 m true with firstAttempt := some 0 } }

theorem witness_ItemsAreResolved :
    (∀ m ∈ [TxMode.single, .blockStop, .blockIgnore, .blockRepeat],
      (inItem m).node.work = some (.item (some 0)) ∧
      (inItem m).node.slot = some { tx0 m true with firstAttempt := some 0 } ∧ m ≠ .scan ∧
      (tx0 m true).items[(tx0 m true).index]? = some item0 ∧ (tx0 m true).sessionOpened = false ∧
      (inItem m).node.nodes[item0.node].status = .online ∧ (tx0 m true).disable = true ∧
      (tx0 m true).items[(tx0 m true).index + 1]? = some item0) ∧
    parseUp acceptFrame = some ⟨0, false, .itemAnswer true 5⟩ ∧ item0.write = false ∧
    parseUp refuseFrame = some ⟨0, false, .itemAnswer false 0⟩ ∧ reached (idle0.clock + 2000) (0 + 2000) = true ∧
    reached (idle0.clock + 39999) (0 + 40000) = false := by decide +kernel

theorem witness_DiscardsAndSilence :
    parseUp [0x83, 7, 0, 0, 0, 0] = none ∧
    (node0 idle0 .fault none).node.nodes[(0 : NodeAddr)].status = .fault ∧
    (node0 idle0 .fault none).node.nodes[(0 : NodeAddr)].lastFrame = some 0 ∧ reached (idle0.clock + 5000) (0 + 5000) = true := by
  decide +kernel

/-- A ring of `n` samples, the newest at time 2000. -/
def ring0 (n : Nat) : List Sample := List.replicate n ⟨1750, 0, false⟩ ++ [⟨2000, 0, false⟩]

theorem witness_SampleStoreAnswers :
    (older 2000 2251 = true ∧ (2251 : Time) ≠ 2000 + 250) ∧ (older 2000 2000 = false ∧ (2000 : Time) ≠ 2000 + 250) ∧
    (ring0 4).length < 8192 ∧ (List.replicate 8192 (⟨0, 0, false⟩ : Sample)).length = 8192 ∧
    ({ idle0 with rings := idle0.rings.set 5 (ring0 4) } : State).rings[(5 : ChanIdx)].getLast? = some ⟨2000, 0, false⟩ ∧
    reached (idle0.clock + 1800002000) (2000 + 1800000000) = true ∧ older 1749 1750 = true ∧ older 1750 1750 = false ∧
    idle0.channel? 5 = none ∧ (withLoad idle0).channel? 5 = some load0 ∧
    idle0.node.nodes[load0.node].status = .absent ∧ (node0 idle0 .silent none).node.nodes[load0.node].status = .silent ∧
    kindMatches load0 (node0 idle0 .online none).node.nodes[load0.node] = true ∧
    kindMatches { load0 with kind := .ambient } (node0 idle0 .online none).node.nodes[load0.node] = false := by
  refine ⟨by decide, by decide, by decide, by rw [List.length_replicate], by decide⟩

/-- A session with node 1 ONLINE and its channel 0 loaded at index 5. -/
def sampling : State := node0 { withLoad idle0 with session := train0.session } .online none

theorem sampling_channel : ∀ i : ChanIdx, sampling.channel? i = if i = 5 then some load0 else none := by decide

theorem witness_SamplesAreStored :
    (parseUp samplesFrame = some ⟨0, true, .samples 1000 (List.replicate 8 [0])⟩ ∧
      sampling.node.nodes[(0 : NodeAddr)].status = .online ∧ sampling.session.power = .active ∧
      (List.replicate 8 ([0] : List Half)).length = sampling.node.nodes[(0 : NodeAddr)].channelCount ∧
      sampling.sessionOpen = true) ∧
    (∀ i e, sampling.channel? i = some e → e.node = 0 → e.forward = .never) ∧
    (sampling.channel? 5 = some load0 ∧ load0.node = 0 ∧ (List.replicate 8 ([0] : List Half))[load0.channel]? = some [0] ∧
      ∀ j f, sampling.channel? j = some f → f.node = 0 → f.channel = load0.channel → j = 5) := by
  refine ⟨by decide +kernel, ?_, by decide, rfl, rfl, ?_⟩
  · intro i e
    rw [sampling_channel]
    by_cases h : i = 5 <;> simp [h]
    rintro rfl
    simp [load0]
  · intro j f
    rw [sampling_channel]
    by_cases h : j = 5 <;> simp [h]

theorem witness_SamplesAreStored_votes :
    ([ForwardMode.never, .session, .always, .decimate].map fun m => ({ load0 with forward := m } : Channel).forward) =
      [.never, .session, .always, .decimate] ∧
    2 + 1 < ({ load0 with decimation := 4 } : Channel).decimation ∧ 3 + 1 = ({ load0 with decimation := 4 } : Channel).decimation := by
  decide

/-! ## Witnesses: chapters 5 to 7 -/

theorem witness_AutozeroBlockEnds :
    let s : State := { withLoad idle0 with
      load.zero := (withLoad idle0).load.zero.set 5 (some { offset := 210, count := 256, sum := 256 * 9000 }) }
    s.load.zero[(5 : ChanIdx)] = some { offset := 210, count := 256, sum := 256 * 9000 } ∧
    s.channel? 5 = some load0 ∧ 256 ≤ ({ offset := 210, count := 256 } : ZeroTrack).count := by decide

def axle0 : AxleData :=
  { ordinal := 1, tE := 1000000, tX := 1200000, dt := 200000, speed := .present 1080 {}, stopFlag := false
    headDisagree := false, unsteady := false, dir := .forward, start := 1207400 }

/-- Both parts of axle 1 in flight, with nothing left to read. -/
def measuring : State :=
  { train0 with load.parts := [⟨axle0, none, []⟩], thermal.parts := [⟨axle0, none, []⟩] }

theorem witness_PartsComplete :
    measuring.site = some site0 ∧ measuring.loadPart? 1 = some ⟨axle0, none, []⟩ ∧
    measuring.bearingPart? 1 = some ⟨axle0, none, []⟩ ∧ (∀ b ∈ (⟨axle0, none, []⟩ : LoadPart).bays, b.read ≠ none) ∧
    (∀ c ∈ (⟨axle0, none, []⟩ : BearingPart).scanners, c.read ≠ none) :=
  ⟨rfl, by decide, by decide, (fun _ h => nomatch h), (fun _ h => nomatch h)⟩

/-- A bay whose wheel stood at 180.0 kN for ten samples. -/
def view0 : BayView :=
  { usable := true, drift := false, stale := false, core := List.replicate 10 ⟨1800, false⟩
    full := List.replicate 10 ⟨1800, false⟩ }

theorem witness_PresentResultsAreSound :
    (railLoad false [view0]).static = .present 1800 { fewBays := true } ∧ (railLoad false [view0]).peak = .present 1800 {} ∧
    (railLoad false [view0]).ratio = .present 100 { fewBays := true } ∧
    riseOf (.present 565 {}) (some (-85)) = .present 650 {} ∧
    sideDifference (.present 650 {}) (.present 487 {}) = .present 163 {} := by decide

theorem witness_SegmentationRuns :
    let s := spacedTrain [2705, 9290, 2698, 3950]
    s.sessionOpen = true ∧ s.group.notices ≠ 0 ∧
    s.group.vehicles.map (·.index) = List.range' 1 s.group.vehicles.length ∧
    ∀ (j : Fin 64) (p : Pattern), s.tables.active.patterns[j] = .valid p → 1 ≤ p.n ∧ p.n ≤ 8 := by
  refine ⟨by decide, by decide, by decide, ?_⟩
  intro j p h
  have : ∀ j : Fin 64, ((spacedTrain [2705, 9290, 2698, 3950]).tables.active.patterns[j].valid?.all
      fun p => decide (1 ≤ p.n ∧ p.n ≤ 8)) = true := by decide
  have hj := this j
  rw [h] at hj
  simpa [Entry.valid?] using hj

/-! ## Witnesses: chapters 8 to 11 -/

/-- Kinds with an entry pending. -/
def pendingAlerts (l : List AlertKind) : State := l.foldl (fun s k => s.raise k .empty) train0

theorem witness_RaiseIsTaken :
    ((train0.alertEntry .s2).enabled = true ∧ (train0.alertEntry .s2).pending = false ∧ train0.port.alertQ.length < 16) ∧
    ((pendingAlerts [.s2]).alertEntry .s2).pending = true ∧
    16 ≤ ({ train0 with port.alertQ := List.replicate 16 (.alert .s1 1 .empty) } : State).port.alertQ.length ∧
    (Source.axle 42 1 = .axle train0.axles.tableSeq 1) ∧ (∀ n, Source.empty ≠ .axle train0.axles.tableSeq n) :=
  ⟨by decide, by decide, by decide, by decide, fun _ h => nomatch h⟩

theorem witness_AlertCommandsAnswer :
    (asked train0 [0x0C, 0x12]).port.commands = ⟨9, [0x0C, 0x12]⟩ :: [] ∧ (asked train0 []).replyRoom = true ∧
    (0x12#8).toNat = AlertKind.s2.code ∧ (0x00#8 ≠ 0xFF#8 ∧ ∀ k ∈ AlertKind.all, (0x00#8).toNat ≠ k.code) ∧
    255 + 256 * 255 + 65536 * 31 + 16777216 * 0 < 2 ^ 21 ∧ 2 ^ 21 ≤ 0 + 256 * 0 + 65536 * 32 + 16777216 * 0 ∧
    (let s := pendingAlerts [.s5, .t3]
     (s.alertEntry .s5).pending = true ∧ (s.alertEntry .s5).enabled = true ∧
     (∀ j ∈ AlertKind.all, j.idx < AlertKind.s5.idx → (s.alertEntry j).pending = false)) ∧
    (∀ k ∈ AlertKind.all, (train0.alertEntry k).pending = false) := by decide

theorem witness_AlertCommandsAnswer_kinds :
    (∀ k : AlertKind, (0x00#8).toNat ≠ k.code) ∧
    (∀ k : AlertKind, (train0.alertEntry k).pending = false ∨ (train0.alertEntry k).enabled = false) ∧
    ∀ j : AlertKind, j.idx < AlertKind.s5.idx →
      ((pendingAlerts [.s5, .t3]).alertEntry j).pending = false ∨ ((pendingAlerts [.s5, .t3]).alertEntry j).enabled = false := by
  refine ⟨fun k => ?_, fun k => ?_, fun k => ?_⟩ <;> cases k <;> decide

theorem witness_TrainStopRequest :
    train0.site = some site0 ∧ site0.gates[(2 : Fin 4)] = .activeHigh ∧
    ({ site0 with gates := .replicate 4 .activeLow } : SiteConstants).gates[(2 : Fin 4)] = .activeLow := by decide

/-- The camera queue with pulses of the given fire times. -/
def firing (l : List Time) (p : Option PulseOut) : State :=
  { train0 with gate.queue := l.map fun t => ⟨t, 1, 42⟩, gate.pulse := p }

theorem witness_GatePulsesRun :
    4 ≤ (firing [1, 2, 3, 4] none).gate.queue.length ∧
    ((firing [3000000, 3000500] none).gate.queue = [⟨3000000, 1, 42⟩] ++ [⟨3000500, 1, 42⟩] ∧
      (firing [3000000, 3000500] none).gate.queue.length < 4 ∧ (firing [3000000, 3000500] none).gate.queue ≠ [] ∧
      older 3000000 3000000 = false ∧ older 3000000 3000500 = true) ∧
    ((firing [3000000] none).gate.queue = ⟨3000000, 1, 42⟩ :: [] ∧ (firing [3000000] none).gate.pulse = none ∧
      (firing [3000000] none).site = some site0 ∧ reached ((firing [3000000] none).clock + 1000000) 3000000 = true) ∧
    (firing [] (some ⟨1, 2000⟩)).gate.pulse = some ⟨1, 2000⟩ ∧
    ({ train0 with gate.exitPulse := some 1 } : State).gate.exitPulse = some 1 := by decide

/-- A session in CLOSING with its measurements done. -/
def closing0 : State := { within .closing train0 with report := { stored0.report with copy := none } }

theorem witness_CloseMeasurementsDone :
    (closing0.session.state = .closing ∧ closing0.report.copy = none ∧
      (∀ r ∈ closing0.axles.records, r.status ≠ .inFlight) ∧ closing0.report.choose = some 1 ∧
      closing0.group.vehicles.map (·.index) = List.range' 1 closing0.group.vehicles.length) ∧
    ((stored0.report.slots[(1 : Fin 4)]).state = .empty ∧ ∀ j : Fin 4, j < 1 → (stored0.report.slots[j]).state ≠ .empty) ∧
    ((store0 .released).order = [0] ++ 1 :: [2, 3] ∧ (∀ j : Fin 4, ((store0 .released).slots[j]).state ≠ .empty) ∧
      ((store0 .released).slots[(1 : Fin 4)]).state = .released ∧
      ((store0 .released).slots[(0 : Fin 4)]).state ≠ .released) ∧
    ((store0 .held).slots[(1 : Fin 4)]).state = .held ∧ (store0 .held).inReadout 0 = true ∧
    (∀ j ∈ (store0 .held).order, ((store0 .held).slots[j]).state ≠ .released) := by decide

theorem witness_ReportCopyCompletes :
    ∃ rep, ({ closing0 with report.copy := some (1, rep) } : State).report.copy = some (1, rep) ∧
      closing0.session.state = .closing ∧ closing0.site = some site0 ∧ site0.liveResults = true ∧
      closing0.port.resultQ.length < 64 ∧ closing0.session.held = [] :=
  ⟨⟨closing0.formHeader, [], []⟩, rfl, rfl, rfl, rfl, by decide, rfl⟩

/-- An engine reading slot 0. -/
def reading (delivered : Nat) : State :=
  { stored0 with
    report := { stored0.report with
      engine := some { slot := 0, part := .header, tag := 9, next := 1, granted := 20, delivered } } }

theorem witness_ReportsAreRead :
    (asked stored0 [0x0F, 0, 0, 1, 0, 5, 0]).port.commands =
      ⟨9, [0x0F, BitVec.ofNat 8 (0 : Fin 4).val, BitVec.ofNat 8 Section.header.code, 1, 0, 5, 0]⟩ :: [] ∧
    (asked stored0 []).replyRoom = true ∧ (1 ≤ (5#8).toNat + 256 * (0#8).toNat ∧ (5#8).toNat + 256 * (0#8).toNat ≤ 1024) ∧
    (reading 0).report.engine ≠ none ∧
    (stored0.report.engine = none ∧ (stored0.report.slots[(0 : Fin 4)]).writing = false ∧
      (stored0.report.slots[(0 : Fin 4)]).state ≠ .empty ∧ (stored0.report.slots[(0 : Fin 4)]).report = (held0 .held 41).report ∧
      (stored0.report.slots[(1 : Fin 4)]).state = .empty) ∧
    ((reading 0).port.reportQ.length < 8 ∧ 0 + min 8 (20 - 0) < 20 ∧ 20 ≤ 12 + min 8 (20 - 12)) ∧
    8 ≤ ({ reading 0 with port.reportQ := List.replicate 8 (.alert .s1 1 .empty) } : State).port.reportQ.length ∧
    (asked stored0 [0x10]).port.commands = ⟨9, [0x10]⟩ :: [] ∧ (asked stored0 [0x0E]).port.commands = ⟨9, [0x0E]⟩ :: [] := by
  decide

theorem witness_ReleaseReportAnswers :
    (∀ b : Byte, (asked stored0 [0x11, b]).port.commands = ⟨9, [0x11, b]⟩ :: []) ∧ (asked stored0 []).replyRoom = true ∧
    4 ≤ (4#8).toNat ∧ (3#8).toNat = (3 : Fin 4).val ∧ (stored0.report.slots[(0 : Fin 4)]).state = .held ∧
    (stored0.report.slots[(0 : Fin 4)]).writing = false ∧ (stored0.report.slots[(3 : Fin 4)]).state = .empty ∧
    ((store0 .released).slots[(1 : Fin 4)]).state = .released ∧ (reading 0).report.inReadout 0 = true ∧
    ({ writing := true } : Slot).writing = true := ⟨fun _ => rfl, by decide⟩

theorem witness_StationFramesRoundTrip : ([0x04] : List Byte).length ≤ 1024 ∧ (List.replicate 1024 (0 : Byte)).length ≤ 1024 := by
  rw [List.length_replicate]
  decide

theorem witness_CommandsArrive :
    parseStation (inbound [0x04]) = some ⟨0x01, 9, [0x04]⟩ ∧ idle0.port.commands.length < 4 ∧
    4 ≤ ({ idle0 with port.commands := List.replicate 4 ⟨9, [4]⟩ } : State).port.commands.length ∧ idle0.replyRoom = true ∧
    ({ idle0 with port.replyQ := List.replicate 4 (.alert .s1 1 .empty) } : State).replyRoom = false ∧
    parseStation [1, 2, 3] = none ∧
    ((asked idle0 [0x12, 1]).port.commands = ⟨9, 0x12 :: [1]⟩ :: [] ∧ 0x11 < (0x12#8).toNat) ∧
    (asked idle0 []).port.commands = ⟨9, []⟩ :: [] := by decide +kernel

theorem witness_OutboundLineServes :
    let f : OutFrame := .alert .s1 1 .empty
    ({ idle0 with port.alertQ := [f] } : State).port.alertQ = f :: [] ∧ idle0.port.alertQ = [] ∧ idle0.port.replyQ = [] ∧
    idle0.port.reportQ = [] ∧ idle0.port.resultQ = [] ∧ idle0.port.forwardQ = [] ∧ idle0.report.engine = none ∧
    ({ idle0 with port.heldReplies := [f] } : State).port.heldReplies = f :: [] ∧ idle0.port.replyQ.length < 4 ∧
    4 ≤ ({ idle0 with port.replyQ := List.replicate 4 f } : State).port.replyQ.length := by decide

theorem witness_TablesAndQueriesAnswer :
    (asked idle0 (0x01 :: [2, 0, 1, 0x90, 1, 0x20, 3, 0xB0, 4])).port.commands =
      ⟨9, 0x01 :: [2, 0, 1, 0x90, 1, 0x20, 3, 0xB0, 4]⟩ :: [] ∧
    idle0.checkLoad [2, 0, 1, 0x90, 1, 0x20, 3, 0xB0, 4] = .ok (.bands {}) ∧ idle0.checkLoad [5, 0, 1] = .range 0 ∧
    idle0.checkLoad [] = .badLength ∧ idle0.sessionOpen = false ∧ train0.sessionOpen = true ∧ idle0.replyRoom = true ∧
    idle0.tables.pending.bands = none ∧ (∀ b c d e : Byte, (asked idle0 [0x02, b, c, d, e]).port.commands =
      ⟨9, [0x02, b, c, d, e]⟩ :: []) ∧ (4 < (5#8).toNat) ∧ (3 < (4#8).toNat ∧ 4 < (5#8).toNat) :=
  ⟨rfl, by decide, by decide, by decide, by decide, by decide, by decide, by decide, (fun _ _ _ _ => rfl), by decide, by decide⟩

theorem witness_SiteResetLeaves :
    (asked (reading 0) [0x05]).port.commands = ⟨9, [0x05]⟩ :: [] ∧ (asked (reading 0) [0x05]).replyRoom = true ∧
    (reading 0).node.slot = none ∧ (reading 0).report.engine.isSome = true ∧ stored0.report.engine = none := by decide

/-! ## Witnesses: further clauses of the same statements -/

/-- Head A with a queue on each coil and a decoder state. -/
def decoding (q1 q2 : List Edge) (h : HeadState) : State :=
  { idle0 with heads.a := { h with c1 := { h.c1 with queue := q1 }, c2 := { h.c2 with queue := q2 } } }

theorem witness_DecoderStepBeginsOrSkips_turnBack :
    let p : Passage := { dir := .forward, firstRise := 1 }
    let s := decoding [⟨5, false⟩] [] { phase1 := true, passage := some p }
    (s.head .a).busy ≤ (7#32).toNat ∧ (s.head .a).nextCoil = some .c1 ∧ ((s.head .a).line .c1).queue = ⟨5, false⟩ :: [] ∧
    (s.advance 7).tieAhead .a ⟨5, false⟩ = false ∧ (s.head .a).resync = false ∧ (s.head .a).passage = some p ∧
    Coil.c1 = (if p.dir = .forward then .c1 else .c2) ∧ (s.head .a).phase1 = decide (Coil.c1 = .c1) ∧
    (s.head .a).phase2 = decide (Coil.c1 = .c2) := by decide

/-- RESYNC: a fit that clears the head, one that does not with an edge left or none, a SKIP with an edge left or none; and in
TRACKING a SKIP that empties both queues. -/
theorem witness_DecoderStepBeginsOrSkips_resync :
    (∀ q2 ∈ [[], [(⟨6, true⟩ : Edge)]], ∀ r ∈ [true, false], ∀ p2 ∈ [true, false],
      let s := decoding [⟨5, false⟩] q2 { resync := r, phase1 := !r, phase2 := p2 }
      let t := decoding [⟨5, false⟩] q2 { resync := r, phase1 := r, phase2 := p2 }
      (s.head .a).nextCoil = some .c1 ∧ ((s.head .a).line .c1).queue = ⟨5, false⟩ :: [] ∧ (s.head .a).busy ≤ (7#32).toNat ∧
      (s.advance 7).tieAhead .a ⟨5, false⟩ = false ∧ (s.head .a).resync = r ∧
      (r = true → (s.head .a).phaseOf .c1 = (⟨5, false⟩ : Edge).rise ∧ (t.head .a).phaseOf .c1 ≠ (⟨5, false⟩ : Edge).rise)) ∧
    (let s := decoding [⟨5, false⟩] [] {}
     (s.head .a).resync = false ∧ (s.head .a).phaseOf .c1 = (⟨5, false⟩ : Edge).rise ∧ (s.head .a).c2.queue = [] ∧
     (s.head .a).nextCoil = some .c1 ∧ (s.advance 7).tieAhead .a ⟨5, false⟩ = false) := by decide

/-- An AMBIENT entry at index 7, its THERMAL node in a status, its ring of `n` samples. -/
def ambient0 : Channel :=
  { node := 1, channel := 2, kind := .ambient, rail := 0, bay := 0, forward := .never, decimation := 0, offset := 0, gain := 4096 }

def withAmbient (st : NodeStatus) (n : Nat) : State :=
  { idle0 with
    tables.active.channels := idle0.tables.active.channels.set 7 (.valid ambient0)
    node.nodes := idle0.node.nodes.set 1 { status := st, type := some .thermal, roles := [.bearing1, .bearing2, .ambient, .spare] }
    rings := idle0.rings.set 7 (⟨0, 0x7FFF, false⟩ :: List.replicate n ⟨1000, 40, false⟩) }

theorem withAmbient_channel (st : NodeStatus) (n : Nat) (i : ChanIdx) :
    (withAmbient st n).channel? i = if i = 7 then some ambient0 else none := by
  have h : ∀ i : ChanIdx, (withAmbient .online 0).channel? i = if i = 7 then some ambient0 else none := by decide
  exact h i

theorem withAmbient_one (st : NodeStatus) (n : Nat) : ∀ (j : ChanIdx) (f : Channel),
    (withAmbient st n).channel? j = some f → f.kind = .ambient → j = 7 := by
  intro j f
  rw [withAmbient_channel]
  by_cases h : j = 7 <;> simp [h]

theorem witness_SessionOpens_latch :
    (∀ (i : ChanIdx) (e : Channel), idle0.channel? i = some e → e.kind ≠ .ambient) ∧
    ((withAmbient .online 16).channel? 7 = some ambient0 ∧ ambient0.kind = .ambient ∧
      ∀ (j : ChanIdx) (f : Channel), (withAmbient .online 16).channel? j = some f → f.kind = .ambient → j = 7) ∧
    (withAmbient .online 16).unusable 7 = none ∧ (withAmbient .silent 16).unusable 7 ≠ none ∧
    (∀ x ∈ [(15, 15), (16, 16), (256, 256), (300, 256)],
      ((((withAmbient .online x.1).rings[(7 : ChanIdx)]).drop (((withAmbient .online x.1).rings[(7 : ChanIdx)]).length - 256)).filter
        fun y => decide (y.raw ≠ 0x7FFF#16 ∧ y.raw ≠ 0x8000#16)).length = x.2) := by
  refine ⟨?_, ⟨by decide, rfl, withAmbient_one _ _⟩, by decide, by decide, by decide +kernel⟩
  have h : ∀ i : ChanIdx, idle0.channel? i = none := by decide
  intro i e he
  rw [h i] at he
  cases he

/-- A crossing in progress begun before STANDBY. -/
def slept : Passage := { dir := .forward, firstRise := 1, beforeStandby := true }

theorem witness_WakeDoes_resync :
    (let s := decoding [] [⟨5, true⟩] { phase1 := true, passage := some slept }
     (s.head .a).passage = some slept ∧ (s.head .a).phase1 = true ∧ (s.head .a).c1.queue = [] ∧ (s.head .a).c2.queue ≠ []) ∧
    (let s := decoding [] [] { phase2 := true, passage := some slept }
     (s.head .a).phase2 = true ∧ (s.head .a).c1.queue = [] ∧ (s.head .a).c2.queue = []) ∧
    (let s := decoding [] [] { passage := some slept }
     (s.head .a).phase1 = false ∧ (s.head .a).phase2 = false ∧ (s.head .a).resync = false) := by decide

theorem witness_Crossings_unsited :
    ({ arrived idle0 .forward with
       heads.a.emitted := [{ cross0 .a .forward with unsited := true }] } : State).heads.a.emitted =
      { cross0 .a .forward with unsited := true } :: [] ∧ (cross0 .a .forward).unsited = false := by decide

/-- A train whose head A has counted `n` axles, with the Axle Table full. -/
def long0 (n : Nat) (cut : Bool) : State :=
  { train0 with
    heads.a.count := n
    axles := { records := (List.range' 1 1024).map rec0, highWater := n, truncated := cut, tableSeq := 42 } }

theorem long0_sound (n : Nat) (cut : Bool) (h : 1024 < n) (hc : cut = true) : (long0 n cut).AxleTableSound := by
  subst hc
  refine ⟨?_, ?_, Nat.le_refl n, fun h => nomatch h⟩ <;> simp [long0, rec0, List.map_map, Function.comp_def]
  omega

theorem witness_EntryRises_above :
    ((long0 1024 false).axles.highWater < 1025 ∧ 1024 < 1025 ∧ (long0 1024 false).axles.truncated = false) ∧
    ((long0 1025 true).axles.highWater < 1026 ∧ (long0 1025 true).axles.truncated = true) ∧
    ((long0 1025 true).AxleTableSound ∧ 1025 ≤ (long0 1025 true).axles.highWater ∧ 1025 ≤ (long0 1025 true).entryCount) :=
  ⟨⟨by decide, by decide, rfl⟩, ⟨by decide, rfl⟩, long0_sound _ _ (by decide) rfl, by decide, by decide⟩

theorem witness_ExitRises_second :
    train0.record? 2 = some (rec0 2) ∧ 2 ≤ train0.entryCount ∧ train0.record? (2 - 1) = some (rec0 1) ∧ 2 ∉ train0.axles.overdue ∧
    ({ train0 with axles.overdue := [2] } : State).record? 2 = some (rec0 2) ∧
    train0.session.record.direction = some .forward := by decide

/-! ### Nodes -/

theorem witness_MarksAndDownstreamLine_poll :
    (sending [.poll] (some (.poll false none))).node.ready = .poll :: [] ∧
    (sending [.poll] (some (.poll false none))).node.work = some (.poll false none) ∧
    (sending [] (some (.poll true none))).node.work = some (.poll true none) ∧
    (sending [] (some (.poll true none))).node.ready = [] := by decide

/-- Nodes 1 and 2 with no identification pending, node 3 with one. -/
def thirdPending : State :=
  { quiet with node.pollWanted := false, node.nodes := quiet.node.nodes.set 2 { identPending := true } }

def thermalFrame : List Byte := up 0x82 1 1 [2, 1, 2, 3, 0]

theorem witness_IdentificationRuns_thermal :
    (thirdPending.node.work = none ∧
      (∀ j : NodeAddr, thirdPending.node.nodes[j].requesting = false ∧ thirdPending.node.nodes[j].owed = false) ∧
      thirdPending.node.nodes[(2 : NodeAddr)].identPending = true ∧
      ∀ j : NodeAddr, j < 2 → thirdPending.node.nodes[j].identPending = false) ∧
    parseUp thermalFrame = some ⟨0, true, .identAnswer .thermal [.bearing1, .bearing2, .ambient, .spare]⟩ ∧
    (let s : State := { node0 idle0 .absent (some (.ident 0 (some 0))) with session.power := .standby }
     s.node.work = some (.ident 0 (some 0)) ∧ s.session.thermalSeen = false ∧ s.session.settleState = .waiting ∧
     s.session.power = .standby) := by decide +kernel

theorem witness_PollingRuns_sent :
    (quiet.node.work = none ∧
      (∀ j : NodeAddr, quiet.node.nodes[j].requesting = false ∧ quiet.node.nodes[j].owed = false) ∧
      (∀ j : NodeAddr, quiet.node.nodes[j].identPending = false) ∧ quiet.node.pollWanted = true) ∧
    (let s := node0 idle0 .fault (some (.poll true none))
     s.node.work = some (.poll true none) ∧ s.node.ready = [] ∧ s.node.nodes[(0 : NodeAddr)].status = .fault) := by decide

/-- Three entries, one of them twice, of two channels. -/
def manyFaultsFrame : List Byte := up 0x84 1 1 [4, 2, 1, 0xFF, 5, 2, 1, 3, 2]

theorem witness_StatusReadsRun_many :
    (requesting0.node.work = none ∧ requesting0.node.nodes[(0 : NodeAddr)].requesting = true ∧
      ∀ j : NodeAddr, j < 0 → requesting0.node.nodes[j].requesting = false ∧ requesting0.node.nodes[j].owed = false) ∧
    parseUp manyFaultsFrame = some ⟨0, true, .statusAnswer
      [⟨some 2, .openCircuit⟩, ⟨none, .supplyLow⟩, ⟨some 2, .openCircuit⟩, ⟨some 3, .overrange⟩]⟩ ∧
    (let l : List FaultEntry := [⟨some 2, .openCircuit⟩, ⟨none, .supplyLow⟩, ⟨some 2, .openCircuit⟩, ⟨some 3, .overrange⟩]
     l.eraseDups = [⟨some 2, .openCircuit⟩, ⟨none, .supplyLow⟩, ⟨some 3, .overrange⟩] ∧
     (l.filterMap (·.channel)).eraseDups = [2, 3]) ∧
    (let s : State := { node0 idle0 .fault (some (.status 0 (some 0))) with session.power := .standby }
     s.node.work = some (.status 0 (some 0)) ∧ s.node.nodes[(0 : NodeAddr)].status = .fault ∧ s.session.power = .standby ∧
     (s.alertEntry .n3).count ≤ 65535) := by decide +kernel

theorem witness_TransactionsBegin_scan :
    let s := node0 { quiet with node.pollWanted := false, node.slot := some (tx0 .scan false) } .online none
    s.node.work = none ∧ s.nextStatus = none ∧ s.nextIdent = none ∧ (tx0 .scan false).mode = .scan ∧
    item0.node.val ≤ (0 : NodeAddr).val ∧ s.node.nodes[(0 : NodeAddr)].status = .online := by decide

/-- An item answered in SCAN, with the nodes of the given addresses ONLINE. -/
def scanning (l : List NodeAddr) : State :=
  l.foldl (fun s (k : NodeAddr) => { s with node.nodes := s.node.nodes.set k { status := .online, type := some .load } })
    (inItem .scan)

theorem witness_ItemsAreResolved_ends :
    ({ tx0 .blockStop true with index := 1 } : Transaction).items[1 + 1]? = none ∧
    ({ item0 with write := true } : TxItem).write = true ∧
    ({ tx0 .blockStop true with sessionOpened := true } : Transaction).sessionOpened = true ∧
    ((scanning [0, 3]).node.work = some (.item (some 0)) ∧
      (scanning [0, 3]).node.slot = some { tx0 .scan true with firstAttempt := some 0 } ∧
      (tx0 .scan true).items = item0 :: [item0] ∧ (tx0 .scan true).index = (0 : NodeAddr).val ∧
      (tx0 .scan true).inFlight = true ∧ (scanning [0, 3]).node.nodes[(3 : NodeAddr)].status = .online ∧
      ∀ j : NodeAddr, 0 < j → j < 3 → (scanning [0, 3]).node.nodes[j].status ≠ .online) ∧
    ((scanning [0]).node.nodes[(0 : NodeAddr)].status = .online ∧
      ∀ j : NodeAddr, 0 < j → (scanning [0]).node.nodes[j].status ≠ .online) ∧
    (let s : State := { quiet with node.slot := some (tx0 .scan false) }
     s.node.slot = some (tx0 .scan false) ∧ (tx0 .scan false).inFlight = false ∧ s.port.heldReplies = [] ∧
     s.port.replyQ.length < 4) := by decide

theorem witness_SampleStoreAnswers_window :
    (ring0 4).head? = some ⟨1750, 0, false⟩ ∧ (ring0 4).getLast? = some ⟨2000, 0, false⟩ ∧ older 1750 1750 = false := by decide

/-- Node 1 ONLINE, its channel 0 loaded at index 5 with a forward mode, no session open. -/
def listening (st : NodeStatus) (m : ForwardMode) (n : Nat) : State :=
  let s := node0 (withLoad idle0) st none
  { s with
    tables.active.channels := s.tables.active.channels.set 5 (.valid { load0 with forward := m })
    port.forwardQ := List.replicate n (.forward 0 []) }

theorem listening_channel (st : NodeStatus) (m : ForwardMode) (n : Nat) (i : ChanIdx) :
    (listening st m n).channel? i = if i = 5 then some { load0 with forward := m } else none := by
  by_cases hi : i = 5
  · subst hi
    cases m <;> rfl
  · rw [if_neg hi]
    have hm : ∀ m : ForwardMode, ∀ i : ChanIdx, i ≠ 5 → (listening .online m 0).channel? i = none := by
      intro m
      cases m <;> decide
    exact hm m i hi

theorem witness_SamplesAreStored_offered :
    ((listening .online .always 31).node.nodes[(0 : NodeAddr)].status = .online ∧
      (listening .online .always 31).sessionOpen = false ∧ (listening .online .always 31).session.power = .active ∧
      (∀ (i : ChanIdx) (z : ZeroTrack), (listening .online .always 31).load.zero[i] = some z → z.count ≤ 248) ∧
      (listening .online .always 31).port.forwardQ.length < 32 ∧ 32 ≤ (listening .online .always 32).port.forwardQ.length) ∧
    (listening .silent .always 0).node.nodes[(0 : NodeAddr)].status = .silent ∧
    (listening .absent .always 0).node.nodes[(0 : NodeAddr)].status = .absent ∧
    (∀ (e : Channel) (i : ChanIdx), i = 6 → (listening .online .never 0).channel? i = some e →
      e.node ≠ 0 ∨ (List.replicate 8 ([0] : List Half)).length ≤ e.channel) := by
  have hz : ∀ i : ChanIdx, (listening .online .always 31).load.zero[i] = if i = 5 then some { offset := 210 } else none := by
    decide
  refine ⟨⟨by decide, by decide, by decide, ?_, by decide, by decide⟩, by decide, by decide, ?_⟩
  · intro i z
    rw [hz]
    by_cases h : i = 5 <;> simp [h]
    rintro rfl
    decide
  · rintro e i rfl
    rw [listening_channel]
    intro h
    cases h

/-! ### Measurement and vehicles -/

theorem witness_PartsAreRead :
    (∀ st ∈ [true, false], ∀ hd ∈ [true, false],
      let a : AxleData := { axle0 with stopFlag := st, headDisagree := hd }
      a.stopFlag = st ∧ a.headDisagree = hd ∧ a.speed = .present 1080 {}) ∧
    ((withLoad train0).newLoadPart site0 axle0).whole = none ∧ ((withLoad train0).newBearingPart site0 axle0).whole = none ∧
    ((withLoad train0).newLoadPart site0 { axle0 with speed := .present 119 {} }).whole ≠ none ∧
    ((withLoad train0).newBearingPart site0 { axle0 with speed := .present 49 {} }).whole ≠ none ∧
    (((withLoad train0).newLoadPart site0 axle0).bays.map fun b => (b.rail, b.bay)) = [(.r1, 0)] ∧
    ((withLoad train0).channel? 5 = some load0 ∧ load0.kind = .load ∧ load0.rail = 1 ∧ load0.bay = (0 : BayNo).val + 1 ∧
      (site0.bayStart.get .r1)[(0 : BayNo)] = some 1200) ∧
    (site0.scanner.get .r1 = some 5000) := by decide

/-- A load part with one bay, read as given. -/
def readPart (a : ReadAnswer) : LoadPart :=
  { axle := axle0, whole := none
    bays := [{ rail := .r1, bay := 0, index := 5, start := 0, stop := 2000, coreStart := 0, coreStop := 2000, read := some a }] }

/-- Samples of raw value 9210 in a window. -/
def window0 (n : Nat) : ReadAnswer :=
  { unusable := none, drift := false, window := .samples (List.replicate n ⟨5, 9210, false⟩) (some 2000) }

theorem witness_PresentResultsAreSound_bays :
    (∀ a ∈ [window0 8, window0 7, { window0 8 with unusable := some .nodeSilent }, { window0 8 with window := .stale }],
      (readPart a).whole = none ∧ (readPart a).bays.all (fun b => b.read.isSome) = true) ∧
    ((withLoad idle0).loadResults (readPart (window0 8))).r1.static.isPresent = true ∧
    ((withLoad idle0).loadResults (readPart (window0 7))).r1.static = .absent .short ∧
    ((withLoad idle0).loadResults (readPart { window0 8 with unusable := some .nodeSilent })).r1.peak = .absent .noChannel ∧
    ((withLoad idle0).loadResults (readPart { window0 8 with window := .stale })).r1.peak = .absent .stale ∧
    ((withLoad idle0).loadResults { readPart (window0 8) with whole := some .stopInZone }).r1.ratio = .absent .stopInZone := by
  decide +kernel

/-- A bearing part with the scanner of rail 1, read as given, on index 5. -/
def scanPart (a : ReadAnswer) : BearingPart :=
  { axle := axle0, whole := none, scanners := [{ rail := .r1, index := 5, start := 0, stop := 2000, read := some a }] }

theorem witness_PresentResultsAreSound_scanners :
    ((withLoad idle0).bearingResults (scanPart (window0 3))).r1.peak.isPresent = true ∧
    ((withLoad idle0).bearingResults (scanPart (window0 2))).r1.peak = .absent .short ∧
    ((withLoad idle0).bearingResults (scanPart { window0 3 with window := .stale })).r1.peak = .absent .stale ∧
    ((withLoad idle0).bearingResults (scanPart { window0 3 with unusable := some .notValid })).r1.rise = .absent .noChannel ∧
    ((withLoad idle0).bearingResults (scanPart (window0 3))).r2.peak = .absent .noChannel ∧
    (withLoad idle0).channel? 5 = some load0 := by decide +kernel

/-- The first entry of Table 7.3. -/
def pattern0 : Pattern := { cls := 10, n := 4, spacings := [2700, 9300, 2700], tolerance := 80, gap := 2000, set := 1 }

theorem witness_PatternTestMatches :
    (let s := spacedTrain [2705, 9290, 2698, 3950]
     s.tables.active.patterns[(0 : Fin 64)] = .valid pattern0 ∧
     (∀ (i : Fin 64), i < 0 → s.tables.active.patterns[i] = .neverLoaded) ∧
     s.testPattern false s.group.cursor pattern0 = .hit) ∧
    (let s : State := { spacedTrain [2499, 2500] with tables := idle0.tables }
     s.site = some site0 ∧ (∀ j : Fin 64, s.tables.active.patterns[j] = .neverLoaded) ∧
     s.spacingView (s.group.cursor + 0 + 1) = .known 2499 ∧ s.spacingView (s.group.cursor + 1 + 1) = .known 2500 ∧
     s.spacingView (s.group.cursor + 2 + 1) = .noRecord) ∧
    (let s : State := { spacedTrain (List.replicate 7 2000) with tables := idle0.tables }
     ∀ i, i < 7 → s.spacingView (s.group.cursor + i + 1) = .known 2000) := by decide

/-- A vehicle of axles 1 and 2, formed and not judged, its set valid or not. -/
def formed0 (valid : Bool) : State :=
  { train0 with
    group.vehicles := [{ index := 1, cls := some 10, pattern := some 0, first := 1, count := 2, set := 1, atClose := false }]
    tables.active.thresholds := train0.tables.active.thresholds.set 1 (if valid then .valid set75 else .neverLoaded) }

theorem witness_AxleTestsRaise_judge :
    ∀ b ∈ [true, false], ∃ v, (formed0 b).vehicle? 1 = some v ∧ v.index = 1 ∧ v.verdicts.Nodup ∧ (formed0 b).site = some site0 ∧
      site0.liveResults = true ∧ (formed0 b).port.resultQ.length < 64 ∧ ((formed0 b).threshold? v.set).isSome = b ∧
      ∀ k : AlertKind, ((formed0 b).alertEntry k).count ≤ 65535 := by
  intro b hb
  refine ⟨_, rfl, rfl, List.nodup_nil, rfl, rfl, by revert b; decide, by revert b; decide, ?_⟩
  intro k
  cases k <;> revert b <;> decide

/-- A train of `n` axles whose rail 1 rises are 100. -/
def warm (n : Nat) : State :=
  { formed0 true with
    axles := { records := (List.range' 1 n).map fun k => { rec0 k with bearing := ⟨{ rise := .present 100 {} }, {}⟩ }
               highWater := n, tableSeq := 42 }
    heads.a.count := n }

theorem witness_AxleTestsRaise_outlier :
    (((warm 7).axles.records.filterMap fun r => r.bearing.r1.rise.value?).length < 8) ∧
    (8 ≤ ((warm 8).axles.records.filterMap fun r => r.bearing.r1.rise.value?).length) ∧ (warm 8).AxleTableSound ∧
    (warm 8).axles.tableSeq = (warm 8).session.seq ∧ ((warm 8).alertEntry .s7).count ≤ 65535 ∧
    (warm 8).record? 3 = some { rec0 3 with bearing := ⟨{ rise := .present 100 {} }, {}⟩ } ∧
    ((warm 8).vehicle? 1).isSome = true :=
  ⟨by decide, by decide, by constructor <;> decide, by decide, by decide, by decide, by decide⟩

/-! ### Gates, reports and the station port -/

/-- The site with an action on every gate and a G3 source. -/
def gated (a : GateAction) (src : G3Source) : State :=
  { train0 with tables.active.site := some { site0 with gates := .replicate 4 a, g3 := src } }

theorem witness_TrainStopRequest_gates :
    (∀ a ∈ [GateAction.forcedLow, .activeLow, .activeHigh, .forcedHigh], ∀ src ∈ [G3Source.none, .sessionOpen, .anySPending, .exitPulse],
      (gated a src).site = some { site0 with gates := .replicate 4 a, g3 := src } ∧
      ∀ g : Fin 4, (Vector.replicate 4 a)[g] = a) ∧ State.reset.site = none := by decide

theorem witness_GatePulsesRun_idle :
    let s : State := { firing [] none with clock := 3000000 }
    reached s.clock 3000000 = true ∧ s.gate.pulse = none ∧ s.gate.queue = [] ∧ s.site = some site0 ∧ site0.camera = some 300 ∧
    ({ site0 with camera := none } : SiteConstants).camera = none ∧ s.session.record.direction = some .forward ∧
    reached s.clock 3000001 = false := by decide

theorem witness_ReportCopyCompletes_seq : closing0.session.record.seq = closing0.session.seq := by decide

theorem witness_StationFramesRoundTrip_vehicle :
    let v : Vehicle := { index := 1, cls := none, pattern := none, first := 1, count := 8, set := 0, atClose := false }
    v.total = none ∧ v.verdicts.length ≤ 8 ∧ ({ v with total := some (0, 8) } : Vehicle).total = some (0, 8) ∧ (0 : Int) ≤ 0 := by
  decide

theorem witness_CommandsArrive_length :
    (asked idle0 [0x0F, 0, 0, 1, 0, 5]).port.commands = ⟨9, 0x0F :: [0, 0, 1, 0, 5]⟩ :: [] ∧
    ([0, 0, 1, 0, 5] : List Byte).length ≠ 6 ∧ (asked idle0 [0x0F, 0, 0, 1, 0, 5]).replyRoom = true ∧
    ({ asked idle0 [4] with port.replyQ := List.replicate 4 (.alert .s1 1 .empty) } : State).replyRoom = false := by decide

theorem witness_TablesAndQueriesAnswer_activation :
    State.reset.session.state = .notReady ∧ idle0.session.state ≠ .notReady ∧
    5 + ([.valid load0, .neverLoaded] : List (Entry Channel)).length ≤ 24 ∧
    23 + ([.valid load0] : List (Entry Channel)).length ≤ 24 ∧
    (let s : State := { closing0 with tables.pending.channels := closing0.tables.pending.channels.set 5 (some (.valid load0)) }
     s.tables.pending.channels[(5 : ChanIdx)] = some (.valid load0) ∧ s.tables.pending.channels[(6 : ChanIdx)] = none) := by decide

theorem witness_TableLoadsAreChecked :
    ([1, 0] : List Byte).length < 3 ∧ ([] : List Byte).length ≠ (1#8).toNat * 70 ∧ 4 < (5#8).toNat ∧
    (site0.bytes.length = 70 ∧ load0.bytes.length = 12 ∧ pattern0.bytes.length = 22 ∧ set75.bytes.length = 20) ∧
    spacingListOk pattern0.bytes = true ∧ spacingListOk ({ pattern0 with n := 5 } : Pattern).bytes = false ∧
    (23 + ([load0.bytes] : List (List Byte)).length ≤ 24 ∧ 63 + ([pattern0.bytes] : List (List Byte)).length ≤ 64 ∧
      15 + ([set75.bytes] : List (List Byte)).length ≤ 16) ∧
    parseSite site0.bytes = some site0 ∧ parseEntry parseChannel load0.bytes = some (.valid load0) ∧
    parseEntry parsePattern pattern0.bytes = some (.valid pattern0) ∧
    parseEntry parseThreshold set75.bytes = some (.valid set75) ∧
    parseEntry parseChannel (List.replicate 12 0) = some (.notValid (List.replicate 12 0)) ∧
    parseEntry parseChannel ({ load0 with bay := 7 } : Channel).bytes = none ∧
    parseEntry parsePattern ({ pattern0 with cls := 0 } : Pattern).bytes = none ∧
    parseEntry parseThreshold ({ set75 with ratio := 99 } : Threshold).bytes = none := by decide +kernel

theorem test_channel_conflict :
    idle0.checkLoad ([1, 5, 2] ++ load0.bytes ++ ({ load0 with channel := 1 } : Channel).bytes) = .range 5 ∧
    idle0.checkLoad ([1, 5, 2] ++ load0.bytes ++ ({ load0 with channel := 1, bay := 2 } : Channel).bytes) =
      .ok (.channels 5 [.valid load0, .valid { load0 with channel := 1, bay := 2 }]) := by decide +kernel

theorem witness_SiteResetLeaves_slot (w : Option Work) (x : Transaction) :
    let s : State := { asked (reading 0) [0x05] with node.work := w, node.slot := some x }
    s.port.commands = ⟨9, [0x05]⟩ :: [] ∧ s.replyRoom = true ∧ s.node.work = w ∧ s.node.slot = some x ∧
    s.report.engine = (reading 0).report.engine := ⟨rfl, rfl, rfl, rfl, rfl⟩

theorem witness_TrackingFollowsTable13_clear :
    let h : HeadState := { phase1 := true }
    h.resync = false ∧ h.phaseOf .c1 ≠ false ∧ h.phaseOf .c1 = true ∧ h.phaseOf .c2 = false ∧ h.passage = none := by decide

/-- A train in a session state with a crossing of head `h` in direction `d`, head counts `n` and an entry head or none. -/
def crossing0 (st : SessionState) (h : Head) (d : Direction) (n : Nat) (g : Option Head) : State :=
  let s : State := { within st train0 with session.entryHead := g, heads := ⟨{ count := n }, { count := n }⟩ }
  s.setHead h { s.head h with emitted := [cross0 h d] }

theorem witness_CrossingChangesItsCount_forms :
    ∀ st ∈ [SessionState.armed, .inTrain, .stopped, .clearing], ∀ h : Head, ∀ d : Direction, ∀ n ∈ [0, 1, 65534, 65535],
      ∀ g ∈ [none, some Head.a],
      let s := crossing0 st h d n g
      (s.head h).emitted = cross0 h d :: [] ∧ (cross0 h d).head = h ∧ (cross0 h d).unsited = false ∧ s.session.state = st ∧
      (s.head h).count = n ∧ s.session.entryHead = g ∧ s.session.record.direction = some .forward ∧ (cross0 h d).dir = d := by
  intro st hst h d n hn g hg
  refine ⟨?_, rfl, rfl, rfl, ?_, rfl, rfl, rfl⟩ <;> cases h <;> rfl

theorem witness_MarksAndDownstreamLine_requests (m : TxMode) (w : Bool) :
    (sending [.statusRequest 0] (some (.status 0 none))).node.ready = .statusRequest 0 :: [] ∧
    (sending [.statusRequest 0] (some (.status 0 none))).node.work = some (.status 0 none) ∧
    (∀ first : Option Time,
      let x : Transaction := { tx0 m w with firstAttempt := first }
      let s : State := { sending [.itemRequest 0 3 true 5] (some (.item none)) with node.slot := some x }
      s.node.ready = .itemRequest 0 3 true 5 :: [] ∧ s.node.work = some (.item none) ∧ s.node.slot = some x ∧
      x.firstAttempt = first) := ⟨rfl, rfl, fun _ => ⟨rfl, rfl, rfl, rfl⟩⟩

theorem witness_CloseMeasurementsDone_counts :
    closing0.entryCount ≠ closing0.exitCount ∧
    (let s : State := { closing0 with heads.b.count := 2 }
     s.entryCount = s.exitCount ∧ s.session.state = .closing ∧ s.report.copy = none ∧ s.report.choose = some 1) := by decide

theorem witness_ReportCopyCompletes_next :
    (closing0.report.slots[(0 : Fin 4)]).state = .held ∧ (closing0.report.slots[(0 : Fin 4)]).report = (held0 .held 41).report ∧
    (closing0.report.slots[(1 : Fin 4)]).state ≠ .held ∧
    (∀ n ∈ [0, 7], ∀ b : Bool,
      let s : State := { closing0 with
        session.held := cross0 .b .forward :: List.replicate n (cross0 .a .reverse), session.rememberedApproach := b }
      s.session.held = cross0 .b .forward :: List.replicate n (cross0 .a .reverse) ∧ s.session.state = .closing ∧
      s.session.rememberedApproach = b) := by
  refine ⟨rfl, rfl, by decide, fun n _ b => ⟨rfl, rfl, rfl⟩⟩

theorem witness_ReportsAreRead_range (a b c d e f : Byte) :
    (asked stored0 [0x0F, a, b, c, d, e, f]).port.commands = ⟨9, [0x0F, a, b, c, d, e, f]⟩ :: [] ∧
    (asked stored0 [0x0F, a, b, c, d, e, f]).replyRoom = true ∧ (3 < (4#8).toNat ∧ (3#8).toNat ≤ 3) ∧
    (2 < (3#8).toNat ∧ (2#8).toNat ≤ 2) ∧ (1024 < (1#8).toNat + 256 * (4#8).toNat ∧ (0#8).toNat + 256 * (4#8).toNat = 1024) ∧
    (∀ rep, (held0 .held 41).report = some rep → (rep.records .header).length < 2 ∧ (rep.records .vehicles).length < 1) := by
  refine ⟨rfl, rfl, by decide, by decide, by decide, ?_⟩
  rintro rep ⟨⟩
  decide

theorem witness_OutboundLineServes_readout (n : Nat) :
    let f : OutFrame := .reportData 0 .header 41 1 []
    let e : Readout := { slot := 0, part := .header, tag := 9, next := 1, granted := 20, foreign := n }
    let s : State := { idle0 with port.reportQ := [f], report.engine := some e }
    s.port.reportQ = f :: [] ∧ s.report.engine = some e ∧ e.foreign = n ∧ s.port.alertQ = [] ∧ s.port.replyQ = [] :=
  ⟨rfl, rfl, rfl, rfl, rfl⟩

theorem witness_TablesAndQueriesAnswer_read (a b c d : Byte) :
    (asked idle0 [0x02, a, b, c, d]).port.commands = ⟨9, [0x02, a, b, c, d]⟩ :: [] ∧ idle0.replyRoom = true ∧
    (1#8 ≠ 0 ∧ (23#8).toNat + (1#8).toNat ≤ idle0.tables.active.channels.toList.length) ∧
    ((32#8).toNat ≤ 32 ∧ (32#8).toNat + (32#8).toNat ≤ idle0.tables.active.patterns.toList.length) ∧
    (15#8).toNat + (1#8).toNat ≤ idle0.tables.active.thresholds.toList.length ∧
    (32 < (33#8).toNat ∧ 1 < (2#8).toNat ∧ ([1, 24, 1, 64, 16] : List Nat).getD (4#8).toNat 0 < (15#8).toNat + (2#8).toNat) := by
  refine ⟨rfl, by decide, ?_, ?_, ?_, by decide⟩ <;> simp

theorem witness_TablesAndQueriesAnswer_write :
    (60 + ([.valid pattern0, .neverLoaded, .notValid [0], .valid pattern0] : List (Entry Pattern)).length ≤ 64) ∧
    (15 + ([.valid set75] : List (Entry Threshold)).length ≤ 16) ∧
    ([Entry.valid pattern0, .neverLoaded] : List (Entry Pattern))[(61 : Fin 64).val - 60]? = some .neverLoaded ∧
    (∀ leaf : Byte, (asked idle0 [0x03, leaf, 4]).port.commands = ⟨9, [0x03, leaf, 4]⟩ :: []) ∧
    ([(1, 70), (24, 12), (1, 6), (64, 22), (16, 20)] : List (Byte × Byte))[(4#8).toNat]? = some (16, 20) :=
  ⟨by decide, by decide, by decide, fun _ => rfl, by decide⟩

theorem witness_SegmentationRuns_chain (final : Bool) :
    let s := spacedTrain [2705, 9290, 2698, 3950]
    s.group.vehicles.map (·.index) = List.range' 1 s.group.vehicles.length ∧ s.group.cursor ≤ s.axles.records.length ∧
    s.decideVehicle final = .form (some 10) (some 0) 4 1 := by cases final <;> decide

/-! ## One step of the machine -/

/-- R1: a step of a command leaves the rest of the queue. -/
theorem test_step_takes_front :
    (match step { train0 with pending := [.settleExpiry 3, .poll 1] } with
      | .next t => decide (t.pending = [.poll 1] ∧ t.clock = 2000003)
      | _ => false) = true := by decide

/-- R101, Table 5.7: the clamped block marks DRIFT and raises N4 once. -/
theorem test_autozero_step :
    (match exec (.autozeroBlockEnd 0 5) { withLoad idle0 with
        load.zero := (withLoad idle0).load.zero.set 5 (some { offset := 700, count := 256, sum := 900 * 256 }) } with
      | .next t => decide (t.load.zero[(5 : ChanIdx)] = some { offset := 722, drift := true } ∧ (t.alertEntry .n4).count = 1)
      | _ => false) = true := by decide

/-- Section 12.4: the first crossing against the session raises T2 and lowers the count. -/
theorem test_reversal :
    (match exec (.crossing 0 .a) (arrived train0 .reverse) with
      | .next t => decide ((t.head .a).count = 1 ∧ (t.alertEntry .t2).pending = true ∧
          (t.record? 2).map (·.position) = some .beforeEntry)
      | _ => false) = true := by decide

/-- Table 7.4: the run on axle 5's spacing forms vehicle 1 of axles 1 to 4. -/
theorem test_segmentation_run :
    (match exec (.segmentationRun 0) (spacedTrain [2705, 9290, 2698, 3950]) with
      | .next t => decide (t.group.cursor = 5 ∧ t.group.vehicles.map (·.cls) = [some 10] ∧
          t.axles.records.map (·.vehicle) = [some 1, some 1, some 1, some 1, none])
      | _ => false) = true := by decide

end Sys2Proof.Tests
end

/-!
PROOFS. Chapter 3, the Axle Table: which ordinals have a record, what a fall of the entry count or of the exit count does
for each thing it can find at its ordinal, and the statements EntryFalls and ExitFalls.
-/

namespace Sys2Proof.Machine

/-! ## Which ordinals have a record (R43) -/

theorem State.record?_eq_none_iff (s : State) (k : Nat) :
    s.record? k = none ↔ k ∉ s.axles.records.map (·.ordinal) := by
  simp [State.record?]

/-- The ordinals of a sound Axle Table are those from 1 to the high-water count, and none above 1024. -/
theorem State.AxleTableSound.mem_ordinals_iff {s : State} (sound : s.AxleTableSound) (k : Nat) :
    k ∈ s.axles.records.map (·.ordinal) ↔ 1 ≤ k ∧ k ≤ 1024 ∧ k ≤ s.axles.highWater := by
  have size := sound.size
  rw [sound.ordinals, List.mem_range'_1]
  omega

theorem State.AxleTableSound.record?_above_capacity {s : State} (sound : s.AxleTableSound) {k : Nat} (above : 1024 < k) :
    s.record? k = none := by
  rw [State.record?_eq_none_iff, sound.mem_ordinals_iff]
  omega

/-! ## A mismatch is counted, up to 65535 (R52) -/

theorem State.countMismatch_eq (s : State) :
    s.countMismatch = { s with axles.mismatch := min (s.axles.mismatch + 1) 65535 } := rfl

/-! ## A fall of the entry count, by what it finds (R48) -/

theorem State.entryFall_of_between {s : State} {k : Nat} {r : AxleRecord} (found : s.record? k = some r)
    (between : r.position = .between) :
    s.entryFall k = s.updRecord k fun r => { r with position := .beforeEntry } := by
  simp [State.entryFall, found, between]

theorem State.entryFall_of_not_between {s : State} {k : Nat} {r : AxleRecord} (found : s.record? k = some r)
    (elsewhere : r.position ≠ .between) : s.entryFall k = s.countMismatch := by
  simp [State.entryFall, found, elsewhere]

theorem State.entryFall_of_no_record {s : State} {k : Nat} (missing : s.record? k = none) : s.entryFall k = s := by
  simp [State.entryFall, missing]

/-! ## A fall of the exit count, by what it finds (R50) -/

theorem State.exitFall_of_beyondExit {s : State} {k : Nat} {r : AxleRecord} (found : s.record? k = some r)
    (beyond : r.position = .beyondExit) :
    s.exitFall k = s.updRecord k fun r => { r with position := .between } := by
  simp [State.exitFall, found, beyond]

theorem State.exitFall_of_not_beyondExit {s : State} {k : Nat} {r : AxleRecord} (found : s.record? k = some r)
    (elsewhere : r.position ≠ .beyondExit) : s.exitFall k = s.countMismatch := by
  simp [State.exitFall, found, elsewhere]

theorem State.exitFall_of_no_record {s : State} {k : Nat} (missing : s.record? k = none) (within : k ≤ 1024) :
    s.exitFall k = s.countMismatch := by
  simp [State.exitFall, missing, axleCapacity, within]

theorem State.exitFall_above_capacity {s : State} {k : Nat} (missing : s.record? k = none) (above : 1024 < k) :
    s.exitFall k = s := by
  simp [State.exitFall, missing, axleCapacity, Nat.not_le.mpr above]

/-! ## The statements -/

/-- Settles O26, by the record found at the ordinal; a sound table has none above 1024. -/
theorem entryFalls : Obligations.EntryFalls := by
  intro s k sound
  refine ⟨fun r found between => State.entryFall_of_between found between, fun r found position => ?_, fun above => ?_⟩
  · have elsewhere : r.position ≠ .between := by rcases position with h | h <;> simp [h]
    rw [State.entryFall_of_not_between found elsewhere, State.countMismatch_eq]
  · exact State.entryFall_of_no_record (sound.record?_above_capacity above)

/-- Settles O27, by the record found at the ordinal; where none is found, by the side of 1024 the ordinal lies on. -/
theorem exitFalls : Obligations.ExitFalls := by
  intro s k sound
  refine ⟨fun r found beyond => State.exitFall_of_beyondExit found beyond, fun r found position => ?_,
    fun within missing => ?_, fun above => ?_⟩
  · have elsewhere : r.position ≠ .beyondExit := by rcases position with h | h <;> simp [h]
    rw [State.exitFall_of_not_beyondExit found elsewhere, State.countMismatch_eq]
  · rw [State.exitFall_of_no_record missing within, State.countMismatch_eq]
  · exact State.exitFall_above_capacity (sound.record?_above_capacity above) above

end Sys2Proof.Machine

/-!
PROOFS. Chapter 5, the end of an autozero block: when the clamp engages, what a block's end makes of the tracking state
and of the alert unit, and the statement AutozeroBlockEnds.
-/

namespace Sys2Proof.Machine

/-! ## When the clamp engages (R101) -/

theorem clamp_ne_self_iff (lo hi x : Int) : clamp lo hi x ≠ x ↔ x < lo ∨ hi < x := by
  unfold clamp
  split
  · omega
  · split <;> omega

/-- The tracking state after a block: the target clamped to the span, and the DRIFT mark by the side of the span's limits
on which the target lies. -/
theorem ZeroTrack.blockEnd_eq (z : ZeroTrack) (o : Int) :
    z.blockEnd o =
      { offset := clamp (o - 512) (o + 512) z.target
        drift := decide (z.target < o - 512 ∨ o + 512 < z.target) } := by
  simp only [ZeroTrack.blockEnd, zeroSpan, clamp_ne_self_iff]

/-! ## The end of a block of an index (R101) -/

/-- A block of a tracked index ends: N4 is raised exactly when the DRIFT mark is set and was clear before. -/
theorem State.endBlock_of_tracked {s : State} {i : ChanIdx} {z : ZeroTrack} {e : Channel}
    (tracked : s.load.zero[i] = some z) (valid : s.channel? i = some e) :
    s.endBlock i =
      if (z.blockEnd e.offset).drift = true ∧ z.drift = false then
        (s.setZero i (z.blockEnd e.offset)).raise .n4 (.node s.session.seq e.node)
      else s.setZero i (z.blockEnd e.offset) := by
  simp [State.endBlock, tracked, valid]

/-- The command ends the block of an index whose accumulator is full. -/
theorem execAutozeroBlockEnd_of_full {s : State} {dt : Time} {i : ChanIdx} {z : ZeroTrack}
    (tracked : (s.advance dt).load.zero[i] = some z) (full : blockLength ≤ z.count) :
    execAutozeroBlockEnd dt i s = .next ((s.advance dt).endBlock i) := by
  simp only [execAutozeroBlockEnd, tracked, if_pos full]

theorem exec_autozeroBlockEnd (dt : Time) (i : ChanIdx) (s : State) :
    exec (.autozeroBlockEnd dt i) s = execAutozeroBlockEnd dt i s := rfl

/-! ## The statement -/

/-- Settles O40: time passing leaves the tracking states and the tables alone, so the command ends the block of the index
as it stood, and the clamp engages where the target lies outside the span. -/
theorem autozeroBlockEnds : Obligations.AutozeroBlockEnds := by
  intro s dt i z e tracked valid full u goal engaged t
  have ended : z.blockEnd e.offset =
      { offset := clamp (e.offset - 512) (e.offset + 512) goal, drift := engaged, count := 0, sum := 0 } :=
    z.blockEnd_eq e.offset
  have moved : u.setZero i (z.blockEnd e.offset) = t := by rw [ended]; rfl
  have marked : (z.blockEnd e.offset).drift = engaged := by rw [ended]
  have uTracked : u.load.zero[i] = some z := tracked
  have uValid : u.channel? i = some e := valid
  have uSeq : u.session.seq = s.session.seq := rfl
  rw [exec_autozeroBlockEnd, execAutozeroBlockEnd_of_full uTracked full, State.endBlock_of_tracked uTracked uValid,
    moved, marked, uSeq]

end Sys2Proof.Machine

/-!
PROOFS. Chapter 8: what each step of a raise makes of the state, what a gate's condition means, and the statements
RaiseIsTaken and TrainStopRequest.
-/

namespace Sys2Proof.Machine

/-! ## The alert kinds (R136) -/

theorem AlertKind.all_getElem?_idx (k : AlertKind) : AlertKind.all[k.idx.val]? = some k := by
  cases k <;> rfl

theorem AlertKind.mem_all (k : AlertKind) : k ∈ AlertKind.all := List.mem_of_getElem? k.all_getElem?_idx

theorem AlertKind.idx_ne {j k : AlertKind} (other : j ≠ k) : k.idx.val ≠ j.idx.val := by
  intro same
  have found : some j = some k := by rw [← j.all_getElem?_idx, ← k.all_getElem?_idx, same]
  exact other (Option.some.inj found)

/-! ## The raise counted in the Alert Table (R138, steps 1 to 4) -/

/-- The state with the entry of a raised kind written, before the frame, the train raise count and the axle alert list. -/
def State.writeRaised (s : State) (k : AlertKind) (src : Source) : State :=
  { s with alert.entries := s.alert.entries.set k.idx ((s.alertEntry k).raised src) }

theorem State.raise_eq_steps (s : State) (k : AlertKind) (src : Source) :
    s.raise k src =
      (((s.writeRaised k src).offerAlertIf k (s.alertEntry k) src).countTrainRaise k).noteAxleAlert k src := rfl

theorem State.alertEntry_writeRaised_self (s : State) (k : AlertKind) (src : Source) :
    (s.writeRaised k src).alertEntry k = (s.alertEntry k).raised src := by
  simp [State.alertEntry, State.writeRaised]

theorem State.alertEntry_writeRaised_ne (s : State) {j k : AlertKind} (src : Source) (other : j ≠ k) :
    (s.writeRaised k src).alertEntry j = s.alertEntry j := by
  simp [State.alertEntry, State.writeRaised, Vector.getElem_set_ne _ _ (AlertKind.idx_ne other)]

/-! ## The ALERT frame (R139) -/

theorem State.offerAlert_of_room {s : State} (f : OutFrame) (room : s.port.alertQ.length < 16) :
    s.offerAlert f = { s with port.alertQ := s.port.alertQ ++ [f] } :=
  if_pos room

theorem State.offerAlert_of_full {s : State} (f : OutFrame) (full : 16 ≤ s.port.alertQ.length) :
    s.offerAlert f = { s with alert.framesNotQueued := min (s.alert.framesNotQueued + 1) 65535 } :=
  if_neg (Nat.not_lt.mpr full)

theorem State.offerAlertIf_of_newlyPending (s : State) (k : AlertKind) {before : AlertEntry} (src : Source)
    (enabled : before.enabled = true) (clear : before.pending = false) :
    s.offerAlertIf k before src = s.offerAlert (.alert k (min (before.count + 1) 65535) src) := by
  simp [State.offerAlertIf, enabled, clear, bump]

theorem State.offerAlertIf_of_silent (s : State) (k : AlertKind) {before : AlertEntry} (src : Source)
    (silent : before.enabled = false ∨ before.pending = true) : s.offerAlertIf k before src = s := by
  rcases silent with disabled | pending
  · simp [State.offerAlertIf, disabled]
  · simp [State.offerAlertIf, pending]

/-- Offering a frame can change the ALERT class and the count of frames not queued, and nothing else. -/
theorem State.offerAlertIf_changes (s : State) (k : AlertKind) (before : AlertEntry) (src : Source) :
    ∃ q n, s.offerAlertIf k before src = { s with port.alertQ := q, alert.framesNotQueued := n } := by
  unfold State.offerAlertIf State.offerAlert
  split
  · split <;> exact ⟨_, _, rfl⟩
  · exact ⟨_, _, rfl⟩

/-! ## The train raise count (R140) -/

theorem State.countTrainRaise_eq (s : State) (k : AlertKind) :
    s.countTrainRaise k =
      { s with
        alert.trainRaises :=
          if s.sessionOpen then s.alert.trainRaises.set k.idx (bump s.alert.trainRaises[k.idx])
          else s.alert.trainRaises } := by
  unfold State.countTrainRaise
  split <;> rfl

theorem State.countTrainRaise_trainRaises (s : State) (k j : AlertKind) :
    (s.countTrainRaise k).alert.trainRaises[j.idx] =
      if j = k ∧ s.sessionOpen = true then min (s.alert.trainRaises[j.idx] + 1) 65535
      else s.alert.trainRaises[j.idx] := by
  rw [State.countTrainRaise_eq]
  by_cases opened : s.sessionOpen = true
  · by_cases same : j = k
    · subst same
      simp [opened, bump]
    · simp [opened, same, Vector.getElem_set_ne _ _ (AlertKind.idx_ne same)]
  · simp [opened]

/-! ## The axle alert list (R58) -/

theorem State.noteAxleAlert_records_of_named {s : State} (k : AlertKind) {src : Source} {n : Nat}
    (named : src = .axle s.axles.tableSeq n) :
    (s.noteAxleAlert k src).axles.records = s.axles.records.map fun r =>
      if r.ordinal = n then { r with alerts := addKind r.alerts k } else r := by
  simp [State.noteAxleAlert, named]

theorem State.noteAxleAlert_of_unnamed {s : State} (k : AlertKind) {src : Source}
    (unnamed : ∀ n, src ≠ .axle s.axles.tableSeq n) : s.noteAxleAlert k src = s := by
  cases src with
  | axle seq n =>
    have elsewhere : seq ≠ s.axles.tableSeq := fun same => unnamed n (by rw [same])
    exact if_neg elsewhere
  | _ => rfl

/-- Noting a raise can change the records of the Axle Table and nothing else. -/
theorem State.noteAxleAlert_changes (s : State) (k : AlertKind) (src : Source) :
    ∃ records, s.noteAxleAlert k src = { s with axles.records := records } := by
  unfold State.noteAxleAlert
  split
  · split <;> exact ⟨_, rfl⟩
  · exact ⟨_, rfl⟩

/-! ## What the whole raise makes of each part (R138) -/

/-- The ALERT class and the count of frames not queued are as the offer leaves them. -/
theorem State.raise_offer (s : State) (k : AlertKind) (src : Source) :
    (s.raise k src).port.alertQ = ((s.writeRaised k src).offerAlertIf k (s.alertEntry k) src).port.alertQ ∧
    (s.raise k src).alert.framesNotQueued =
      ((s.writeRaised k src).offerAlertIf k (s.alertEntry k) src).alert.framesNotQueued := by
  simp [State.raise_eq_steps, State.countTrainRaise_eq]

theorem State.raise_alertEntry (s : State) (k j : AlertKind) (src : Source) :
    (s.raise k src).alertEntry j = (s.writeRaised k src).alertEntry j := by
  obtain ⟨q, n, offered⟩ := (s.writeRaised k src).offerAlertIf_changes k (s.alertEntry k) src
  have entries : (s.raise k src).alert.entries = (s.writeRaised k src).alert.entries := by
    simp only [State.raise_eq_steps, State.noteAxleAlert_frame, State.countTrainRaise_eq, offered]
  rw [State.alertEntry, entries, State.alertEntry]

theorem State.raise_trainRaises (s : State) (k j : AlertKind) (src : Source) :
    (s.raise k src).alert.trainRaises[j.idx] =
      if j = k ∧ s.sessionOpen = true then min (s.alert.trainRaises[j.idx] + 1) 65535
      else s.alert.trainRaises[j.idx] := by
  obtain ⟨q, n, offered⟩ := (s.writeRaised k src).offerAlertIf_changes k (s.alertEntry k) src
  simp only [State.raise_eq_steps, State.noteAxleAlert_frame, State.countTrainRaise_trainRaises, offered]
  rfl

theorem State.raise_records_of_named {s : State} (k : AlertKind) {src : Source} {n : Nat}
    (named : src = .axle s.axles.tableSeq n) :
    (s.raise k src).axles.records = s.axles.records.map fun r =>
      if r.ordinal = n then { r with alerts := addKind r.alerts k } else r := by
  rw [State.raise_eq_steps, State.noteAxleAlert_records_of_named (n := n)] <;> simp [named, State.writeRaised]

theorem State.raise_records_of_unnamed {s : State} (k : AlertKind) {src : Source}
    (unnamed : ∀ n, src ≠ .axle s.axles.tableSeq n) : (s.raise k src).axles.records = s.axles.records := by
  rw [State.raise_eq_steps, State.noteAxleAlert_of_unnamed] <;> simp [State.writeRaised, unnamed]

/-- A raise changes the alert unit, the ALERT class and the records of the Axle Table, and nothing else. -/
theorem State.raise_changes (s : State) (k : AlertKind) (src : Source) :
    s.raise k src =
      { s with
        alert := (s.raise k src).alert
        port.alertQ := (s.raise k src).port.alertQ
        axles.records := (s.raise k src).axles.records } := by
  obtain ⟨q, n, offered⟩ := (s.writeRaised k src).offerAlertIf_changes k (s.alertEntry k) src
  obtain ⟨records, noted⟩ :=
    (((s.writeRaised k src).offerAlertIf k (s.alertEntry k) src).countTrainRaise k).noteAxleAlert_changes k src
  rw [State.raise_eq_steps, noted, State.countTrainRaise_eq, offered]
  rfl

/-! ## What a gate's condition means (R146 to R148, R150) -/

theorem State.gateCondition_g0_iff (s : State) :
    s.gateCondition 0 = true ↔ s.session.state ∈ [SessionState.armed, .inTrain, .stopped, .clearing] := by
  simp only [State.gateCondition, State.g0Condition]
  cases s.session.state <;> simp

theorem State.sessionOpen_iff (s : State) :
    s.sessionOpen = true ↔ s.session.state ∈ [SessionState.armed, .inTrain, .stopped, .clearing, .closing] := by
  simp only [State.sessionOpen]
  cases s.session.state <;> simp [SessionState.isOpen]

theorem State.gateCondition_g1_iff (s : State) : s.gateCondition 1 = true ↔ ∃ p, s.gate.pulse = some p :=
  Option.isSome_iff_exists

theorem State.gateCondition_g2_iff (s : State) :
    s.gateCondition 2 = true ↔
      (s.alertEntry .s1).pending = true ∨ (s.alertEntry .s2).pending = true ∨ (s.alertEntry .s3).pending = true := by
  simp [State.gateCondition, State.g2Condition, or_assoc]

/-- The condition of G3 by its source (R147). -/
def State.g3Meaning (s : State) : G3Source → Prop
  | .none => False
  | .sessionOpen => s.session.state ∈ [SessionState.armed, .inTrain, .stopped, .clearing, .closing]
  | .anySPending => ∃ k : AlertKind, k ∈ [AlertKind.s1, .s2, .s3, .s4, .s5, .s6, .s7] ∧ (s.alertEntry k).pending = true
  | .exitPulse => ∃ since, s.gate.exitPulse = some since

theorem State.gateCondition_g3_iff {s : State} {sc : SiteConstants} (active : s.site = some sc) :
    s.gateCondition 3 = true ↔ s.g3Meaning sc.g3 := by
  simp only [State.gateCondition, State.g3Condition, active]
  cases sc.g3 with
  | none => simp [State.g3Meaning]
  | sessionOpen => exact s.sessionOpen_iff
  | anySPending => exact List.any_eq_true
  | exitPulse => exact Option.isSome_iff_exists

/-! ## The output lines (R144, R145) -/

theorem State.gateLine_of_active {s : State} {sc : SiteConstants} (active : s.site = some sc) (g : Fin 4) :
    s.gateLine g = sc.gates[g].level (s.gateCondition g) := by
  simp [State.gateLine, active]

theorem State.gateLine_of_neverActivated {s : State} (inactive : s.site = none) (g : Fin 4) : s.gateLine g = false := by
  simp [State.gateLine, inactive]

/-- A gate whose action is ACTIVE_HIGH or ACTIVE_LOW is at its active level exactly while its condition holds. -/
theorem State.gateLine_follows {s : State} {sc : SiteConstants} (active : s.site = some sc) {g : Fin 4} {condition : Prop}
    (means : s.gateCondition g = true ↔ condition) :
    (sc.gates[g] = .activeHigh → (s.gateLine g = true ↔ condition)) ∧
    (sc.gates[g] = .activeLow → (s.gateLine g = false ↔ condition)) := by
  rw [State.gateLine_of_active active g, ← means]
  constructor <;> intro action <;> simp [action, GateAction.level]

theorem State.gateLine_forced {s : State} {sc : SiteConstants} (active : s.site = some sc) (g : Fin 4) :
    (sc.gates[g] = .forcedHigh → s.gateLine g = true) ∧ (sc.gates[g] = .forcedLow → s.gateLine g = false) := by
  rw [State.gateLine_of_active active g]
  constructor <;> intro action <;> rw [action] <;> rfl

theorem State.alertLine_iff (s : State) :
    s.alertLine = true ↔ ∃ k : AlertKind, (s.alertEntry k).pending = true ∧ (s.alertEntry k).enabled = true := by
  simp [State.alertLine, AlertKind.mem_all]

/-! ## The statements -/

/-- Settles O47, part by part: the entries, the frame by the entry before the raise, the train raise count, the records
by the session the source names, and the rest of the state. -/
theorem raiseIsTaken : Obligations.RaiseIsTaken := by
  intro s k src e t
  obtain ⟨queue, count⟩ := s.raise_offer k src
  refine ⟨?_, fun j other => ?_, fun enabled clear room => ?_, fun enabled clear full => ?_, fun silent => ?_,
    fun j => s.raise_trainRaises k j src, fun n named => State.raise_records_of_named k named,
    State.raise_records_of_unnamed k, s.raise_changes k src⟩
  · rw [State.raise_alertEntry, State.alertEntry_writeRaised_self]
    rfl
  · rw [State.raise_alertEntry, State.alertEntry_writeRaised_ne s src other]
  · rw [queue, count, State.offerAlertIf_of_newlyPending _ k src enabled clear,
      State.offerAlert_of_room (s := s.writeRaised k src) _ room]
    exact ⟨rfl, rfl⟩
  · rw [queue, count, State.offerAlertIf_of_newlyPending _ k src enabled clear,
      State.offerAlert_of_full (s := s.writeRaised k src) _ full]
    exact ⟨rfl, rfl⟩
  · rw [queue, count, State.offerAlertIf_of_silent _ k src silent]
    exact ⟨rfl, rfl⟩

/-- Settles O49: each gate follows what its condition means, by the active action and the G3 source. -/
theorem trainStopRequest : Obligations.TrainStopRequest := by
  refine ⟨fun s sc active => State.gateLine_follows active s.gateCondition_g2_iff, fun s sc active => ?_,
    fun s inactive => State.gateLine_of_neverActivated inactive, State.alertLine_iff⟩
  have g3 {source : G3Source} (chosen : sc.g3 = source) : s.gateCondition 3 = true ↔ s.g3Meaning source :=
    chosen ▸ State.gateCondition_g3_iff active
  exact ⟨State.gateLine_follows active s.gateCondition_g0_iff, State.gateLine_follows active s.gateCondition_g1_iff,
    fun chosen => State.gateLine_follows active (g3 chosen), fun chosen => State.gateLine_follows active (g3 chosen),
    fun chosen => State.gateLine_follows active (g3 chosen), fun chosen => State.gateLine_follows active (g3 chosen),
    State.gateLine_forced active⟩

end Sys2Proof.Machine

/-!
PROOFS. The five laws of a sound state, first part: the steps inside a command that no law speaks of. A law reads the
heads, the session, the tables, the tracking states, the rings, the reports, the camera queue, the ordinals of the Axle
Table and the lengths of the port's queues; an operation that keeps the former and fills no queue beyond its capacity is
called calm here.
-/

namespace Sys2Proof.Machine

/-! ## Calm changes -/

/-- The queues of the station port hold no more than their capacities (R164, Table 10.3). -/
structure StationPort.Bounded (p : StationPort) : Prop where
  commands : p.commands.length ≤ 4
  alertQ : p.alertQ.length ≤ 16
  replyQ : p.replyQ.length ≤ 4
  reportQ : p.reportQ.length ≤ 8
  resultQ : p.resultQ.length ≤ 64
  forwardQ : p.forwardQ.length ≤ 32

/-- `t` differs from `s` only in what no law of the state speaks of, and in port queues filled within their capacity. -/
structure State.Calm (s t : State) : Prop where
  heads : t.heads = s.heads
  session : t.session = s.session
  tables : t.tables = s.tables
  zero : t.load.zero = s.load.zero
  rings : t.rings = s.rings
  report : t.report = s.report
  camera : t.gate.queue = s.gate.queue
  ordinals : t.axles.records.map (·.ordinal) = s.axles.records.map (·.ordinal)
  highWater : t.axles.highWater = s.axles.highWater
  port : s.port.Bounded → t.port.Bounded

theorem State.Calm.refl (s : State) : s.Calm s := ⟨rfl, rfl, rfl, rfl, rfl, rfl, rfl, rfl, rfl, id⟩

theorem State.Calm.trans {s t u : State} (first : s.Calm t) (second : t.Calm u) : s.Calm u where
  heads := second.heads.trans first.heads
  session := second.session.trans first.session
  tables := second.tables.trans first.tables
  zero := second.zero.trans first.zero
  rings := second.rings.trans first.rings
  report := second.report.trans first.report
  camera := second.camera.trans first.camera
  ordinals := second.ordinals.trans first.ordinals
  highWater := second.highWater.trans first.highWater
  port := second.port ∘ first.port

/-- The parts of the state that no law reads can be anything. -/
theorem State.calm_with (s : State) (clock : Time) (node : NodeLink) (parts : List LoadPart) (thermal : ThermalUnit)
    (group : Grouping) (alert : AlertUnit) (pulse : Option PulseOut) (exitPulse : Option Time) (freeCount : Nat)
    (pending : List Instr) :
    s.Calm { s with
      clock := clock, node := node, load.parts := parts, thermal := thermal, group := group, alert := alert
      gate.pulse := pulse, gate.exitPulse := exitPulse, freeCount := freeCount, pending := pending } :=
  ⟨rfl, rfl, rfl, rfl, rfl, rfl, rfl, rfl, rfl, id⟩

/-- So can the parts of the Axle Table beside its ordinals and its high-water count. -/
theorem State.calm_axles (s : State) {axles : AxleTracker}
    (ordinals : axles.records.map (·.ordinal) = s.axles.records.map (·.ordinal))
    (highWater : axles.highWater = s.axles.highWater) : s.Calm { s with axles := axles } :=
  ⟨rfl, rfl, rfl, rfl, rfl, rfl, rfl, ordinals, highWater, id⟩

theorem State.calm_port (s : State) {port : StationPort} (bounded : s.port.Bounded → port.Bounded) :
    s.Calm { s with port := port } :=
  ⟨rfl, rfl, rfl, rfl, rfl, rfl, rfl, rfl, rfl, bounded⟩

/-! ## Updates of a record, a vehicle or a node -/

theorem map_ordinal_map {f : AxleRecord → AxleRecord} (keeps : ∀ r, (f r).ordinal = r.ordinal) (l : List AxleRecord) :
    (l.map f).map (·.ordinal) = l.map (·.ordinal) := by
  simp [keeps]

theorem State.mapRecords_calm (s : State) {f : AxleRecord → AxleRecord} (keeps : ∀ r, (f r).ordinal = r.ordinal) :
    s.Calm { s with axles.records := s.axles.records.map f } :=
  s.calm_axles (map_ordinal_map keeps _) rfl

/-- An update of the record of ordinal `k` that leaves that ordinal in it. -/
theorem State.updRecord_calm (s : State) (k : Nat) {f : AxleRecord → AxleRecord}
    (keeps : ∀ r, r.ordinal = k → (f r).ordinal = k) : s.Calm (s.updRecord k f) :=
  s.mapRecords_calm fun r => by
    split
    · next at_k => rw [keeps r at_k, at_k]
    · rfl

theorem State.updVehicle_calm (s : State) (v : Nat) (f : Vehicle → Vehicle) : s.Calm (s.updVehicle v f) :=
  s.calm_with ..

theorem State.updNode_calm (s : State) (k : NodeAddr) (f : NodeEntry → NodeEntry) : s.Calm (s.updNode k f) :=
  s.calm_with ..

theorem State.countMismatch_calm (s : State) : s.Calm s.countMismatch := s.calm_axles rfl rfl

/-! ## Frames offered (R139, R166, R167) -/

theorem State.offerAlert_calm (s : State) (f : OutFrame) : s.Calm (s.offerAlert f) := by
  unfold State.offerAlert
  split
  · next room =>
    exact s.calm_port fun b => { b with alertQ := by simpa [alertCapacity] using room }
  · exact s.calm_with ..

theorem State.offerReply_calm (s : State) (r : Reply) : s.Calm (s.offerReply r) := by
  unfold State.offerReply
  split
  · next room =>
    exact s.calm_port fun b => { b with replyQ := by simpa [replyCapacity] using room.2 }
  · exact s.calm_port fun b => { b with }

theorem State.offerResult_calm (s : State) (f : OutFrame) : s.Calm (s.offerResult f) := by
  unfold State.offerResult
  split
  · split
    · split
      · next room => exact s.calm_port fun b => { b with resultQ := by simpa [resultCapacity] using room }
      · exact s.calm_port fun b => { b with }
    · exact .refl s
  · exact .refl s

theorem State.offerForward_calm (s : State) (f : OutFrame) : s.Calm (s.offerForward f) := by
  unfold State.offerForward
  split
  · next room => exact s.calm_port fun b => { b with forwardQ := by simpa [forwardCapacity] using room }
  · exact s.calm_port fun b => { b with }

/-! ## Raises (R138) -/

theorem State.noteAxleAlert_calm (s : State) (k : AlertKind) (src : Source) : s.Calm (s.noteAxleAlert k src) := by
  unfold State.noteAxleAlert
  split
  · split
    · exact s.updRecord_calm _ (by intros; assumption)
    · exact .refl s
  · exact .refl s

theorem State.offerAlertIf_calm (s : State) (k : AlertKind) (before : AlertEntry) (src : Source) :
    s.Calm (s.offerAlertIf k before src) := by
  unfold State.offerAlertIf
  split
  · exact s.offerAlert_calm _
  · exact .refl s

theorem State.raise_calm (s : State) (k : AlertKind) (src : Source) : s.Calm (s.raise k src) := by
  rw [State.raise_eq_steps, State.countTrainRaise_eq]
  have written : s.Calm (s.writeRaised k src) := s.calm_with ..
  have offered := (s.writeRaised k src).offerAlertIf_calm k (s.alertEntry k) src
  have counted (u : State) (n : Vector Nat 21) : u.Calm { u with alert.trainRaises := n } := u.calm_with ..
  exact ((written.trans offered).trans (counted ..)).trans (State.noteAxleAlert_calm _ k src)

theorem State.raiseAll_calm (s : State) (src : Source) (l : List AlertKind) : s.Calm (s.raiseAll src l) := by
  induction l generalizing s with
  | nil => exact .refl s
  | cons k l ih => exact (s.raise_calm k src).trans (ih _)

theorem State.raiseAxles_calm (s : State) (th : Threshold) (bands : SpeedBands) (l : List AxleRecord) :
    s.Calm (s.raiseAxles th bands l) := by
  induction l generalizing s with
  | nil => exact .refl s
  | cons r l ih => exact (s.raiseAll_calm _ _).trans (ih _)

/-! ## Grouping and judgement (chapter 7) -/

theorem State.judge_calm (s : State) (v : Vehicle) : s.Calm (s.judge v) := by
  unfold State.judge
  have raised : s.Calm (match s.threshold? v.set with
      | some th => s.raiseAxles th s.tables.active.bands (s.vehicleRecords v)
      | none => s) := by
    split
    · exact s.raiseAxles_calm ..
    · exact .refl s
  exact (raised.trans (State.updVehicle_calm ..)).trans (State.offerResult_calm ..)

theorem State.judgeIfReady_calm (s : State) (index : Nat) : s.Calm (s.judgeIfReady index) := by
  unfold State.judgeIfReady
  split
  · split
    · exact s.judge_calm _
    · exact .refl s
  · exact .refl s

theorem State.formVehicle_calm (s : State) (atClose : Bool) (cls pattern : Option Nat) (count set : Nat) :
    s.Calm (s.formVehicle atClose cls pattern count set) := by
  unfold State.formVehicle
  have joined (g : Grouping) (f : AxleRecord → AxleRecord) (keeps : ∀ r, (f r).ordinal = r.ordinal) :
      s.Calm { s with group := g, axles.records := s.axles.records.map f } :=
    (s.mapRecords_calm keeps).trans (State.calm_with ..)
  cases cls with
  | none =>
    refine ((joined _ _ ?_).trans ((State.raise_calm ..).trans (State.updVehicle_calm ..))).trans
      (State.judgeIfReady_calm ..)
    intro r
    split <;> rfl
  | some c =>
    refine (joined _ _ ?_).trans (State.judgeIfReady_calm ..)
    intro r
    split <;> rfl

theorem State.segment_calm (final : Bool) (n : Nat) (s : State) : s.Calm (State.segment final n s) := by
  induction n generalizing s with
  | zero => exact .refl s
  | succ n ih =>
    unfold State.segment
    split
    · exact .refl s
    · split
      · exact .refl s
      · exact (s.formVehicle_calm ..).trans (ih _)

theorem State.runSegmentation_calm (s : State) (final : Bool) : s.Calm (s.runSegmentation final) :=
  State.segment_calm final _ s

theorem State.axleMeasured_calm (s : State) (k : Nat) : s.Calm (s.axleMeasured k) := by
  unfold State.axleMeasured
  split
  · exact s.judgeIfReady_calm _
  · exact .refl s

theorem State.judgeRest_calm (l : List Nat) (s : State) : s.Calm (State.judgeRest l s) := by
  induction l generalizing s with
  | nil => exact .refl s
  | cons i l ih =>
    unfold State.judgeRest
    split
    · split
      · exact ih s
      · exact (s.judge_calm _).trans (ih _)
    · exact ih s

theorem State.closeVehicles_calm (s : State) : s.Calm s.closeVehicles :=
  (s.runSegmentation_calm true).trans (State.judgeRest_calm ..)

theorem State.testOutlier_calm (s : State) (mean : Int) (rail : Rail) (r : AxleRecord) :
    s.Calm (s.testOutlier mean rail r) := by
  unfold State.testOutlier
  split
  · split
    · dsimp only
      split
      · exact (s.raise_calm ..).trans (State.updVehicle_calm ..)
      · exact s.raise_calm ..
    · exact .refl s
  · exact .refl s

theorem State.testOutliers_calm (mean : Int) (rail : Rail) (l : List AxleRecord) (s : State) :
    s.Calm (State.testOutliers mean rail l s) := by
  induction l generalizing s with
  | nil => exact .refl s
  | cons r l ih => exact (s.testOutlier_calm mean rail r).trans (ih _)

/-! ## Parts of a measurement (chapters 5 and 6) -/

theorem State.partDone_calm (s : State) (k : Nat) : s.Calm (s.partDone k) := by
  unfold State.partDone
  split
  · exact .refl s
  · have done : s.Calm { s.updRecord k (fun r => { r with status := .done }) with axles.inFlight := s.axles.inFlight - 1 } :=
      (s.updRecord_calm k (by intros; assumption)).trans (State.calm_axles _ rfl rfl)
    dsimp only
    split
    · exact (done.trans (State.offerResult_calm ..)).trans (State.axleMeasured_calm ..)
    · exact done

theorem State.completeLoad_calm (s : State) (p : LoadPart) : s.Calm (s.completeLoad p) := by
  unfold State.completeLoad
  have gone (l : List LoadPart) : s.Calm { s with load.parts := l } := s.calm_with ..
  exact (((gone _).trans (State.updRecord_calm _ _ (by intros; assumption))).trans (State.raiseAll_calm ..)).trans
    (State.partDone_calm ..)

theorem State.completeBearing_calm (s : State) (p : BearingPart) : s.Calm (s.completeBearing p) := by
  unfold State.completeBearing
  have gone (l : List BearingPart) : s.Calm { s with thermal.parts := l } := s.calm_with ..
  exact (((gone _).trans (State.updRecord_calm _ _ (by intros; assumption))).trans (State.raiseAll_calm ..)).trans
    (State.partDone_calm ..)

/-! ## Axle tracker and camera (chapters 3 and 8) -/

theorem State.beginParts_calm (s : State) (a : AxleData) : s.Calm (s.beginParts a) := by
  unfold State.beginParts
  split
  · exact s.calm_with ..
  · exact .refl s

theorem State.startMeasurement_calm (s : State) {r : AxleRecord} (x : Crossing) : s.Calm (s.startMeasurement r x) := by
  unfold State.startMeasurement
  have written (r' : AxleRecord) (same : r'.ordinal = r.ordinal) (n : Nat) :
      s.Calm { s.updRecord r.ordinal (fun _ => r') with axles.inFlight := n } :=
    (s.updRecord_calm r.ordinal fun _ _ => same).trans (State.calm_axles _ rfl rfl)
  refine ((written _ ?_ _).trans (State.beginParts_calm ..)).trans (State.calm_with ..)
  split
  · split <;> rfl
  · rfl

theorem State.entryFall_calm (s : State) (k : Nat) : s.Calm (s.entryFall k) := by
  unfold State.entryFall
  split
  · split
    · exact s.updRecord_calm k (by intros; assumption)
    · exact s.countMismatch_calm
  · exact .refl s

theorem State.exitRise_calm (s : State) (k : Nat) (x : Crossing) : s.Calm (s.exitRise k x) := by
  unfold State.exitRise
  split
  · exact s.countMismatch_calm
  · split
    · split
      · split
        · exact s.startMeasurement_calm x
        · exact s.updRecord_calm k (by intros; assumption)
      · exact s.countMismatch_calm
    · exact .refl s

theorem State.exitFall_calm (s : State) (k : Nat) : s.Calm (s.exitFall k) := by
  unfold State.exitFall
  split
  · split
    · exact s.updRecord_calm k (by intros; assumption)
    · exact s.countMismatch_calm
  · split
    · exact s.countMismatch_calm
    · exact .refl s

theorem State.flagStopped_calm (s : State) : s.Calm s.flagStopped :=
  s.mapRecords_calm fun r => by split <;> rfl

theorem State.writeCamera_calm (s : State) (seq : Half) (k : Nat) (o : CameraOutcome) :
    s.Calm (s.writeCamera seq k o) := by
  unfold State.writeCamera
  split
  · exact s.updRecord_calm k (by intros; assumption)
  · exact .refl s

theorem State.startPulse_calm (s : State) (p : CameraPulse) : s.Calm (s.startPulse p) := by
  unfold State.startPulse
  have begun (out : Option PulseOut) : s.Calm { s with gate.pulse := out } := s.calm_with ..
  exact (begun _).trans (State.writeCamera_calm ..)

/-! ## The node port's work and its transaction (chapter 4) -/

theorem State.sendDown_calm (s : State) (f : DownFrame) : s.Calm (s.sendDown f) := s.calm_with ..

theorem State.haltIfAsleep_calm (s : State) (k : NodeAddr) : s.Calm (s.haltIfAsleep k) := by
  unfold State.haltIfAsleep
  split
  · exact s.sendDown_calm _
  · exact .refl s

theorem State.touchNode_calm (s : State) (k : NodeAddr) (srq : Bool) : s.Calm (s.touchNode k srq) := by
  unfold State.touchNode
  dsimp only
  split
  · exact (s.updNode_calm k _).trans (State.calm_with ..)
  · exact s.updNode_calm k _

theorem State.applyStatus_calm (s : State) (k : NodeAddr) (answer : List FaultEntry) : s.Calm (s.applyStatus k answer) := by
  unfold State.applyStatus
  dsimp only
  split
  · split
    · exact (s.updNode_calm ..).trans (State.haltIfAsleep_calm ..)
    · exact s.updNode_calm ..
  · split
    · exact ((s.updNode_calm ..).trans (State.raise_calm ..)).trans (State.raiseAll_calm ..)
    · exact (s.updNode_calm ..).trans (State.raiseAll_calm ..)

theorem State.endTransaction_calm (s : State) (t : Transaction) (o : TxOutcome) : s.Calm (s.endTransaction t o) := by
  unfold State.endTransaction
  have ended (n : NodeLink) : s.Calm { s with node := n } := s.calm_with ..
  exact (ended _).trans (State.offerReply_calm ..)

theorem State.sendItem_calm (s : State) (t : Transaction) : s.Calm (s.sendItem t) := by
  unfold State.sendItem
  split <;> exact s.calm_with ..

theorem State.scanFrom_calm (s : State) (t : Transaction) (a : Nat) : s.Calm (s.scanFrom t a) := by
  unfold State.scanFrom
  split
  · exact s.sendItem_calm _
  · exact s.endTransaction_calm ..

theorem State.resolveItem_calm (s : State) (t : Transaction) (r : ItemResult) : s.Calm (s.resolveItem t r) := by
  unfold State.resolveItem
  split
  · exact s.endTransaction_calm ..
  · split
    · exact s.sendItem_calm _
    · exact s.endTransaction_calm ..
    · split
      · exact s.scanFrom_calm ..
      · split
        · exact s.sendItem_calm _
        · exact s.endTransaction_calm ..

theorem State.openEndsTransaction_calm (s : State) : s.Calm s.openEndsTransaction := by
  unfold State.openEndsTransaction
  split
  · exact .refl s
  · split
    · exact s.calm_with ..
    · have emptied (n : NodeLink) : s.Calm { s with node := n } := s.calm_with ..
      exact (emptied _).trans (State.offerReply_calm ..)

theorem State.replyAborted_calm (s : State) (slot : Option Transaction) (work : Option Work) :
    s.Calm (s.replyAborted slot work) := by
  unfold State.replyAborted
  split
  · exact s.offerReply_calm _
  · exact .refl s

theorem State.replyReset_calm (s : State) (engine : Option Readout) : s.Calm (s.replyReset engine) := by
  unfold State.replyReset
  split
  · exact s.offerReply_calm _
  · exact .refl s

/-! ## The station port (chapter 10) -/

theorem State.forwardFrame_calm (s : State) (k : NodeAddr) (frame : List Byte) : s.Calm (s.forwardFrame k frame) := by
  unfold State.forwardFrame
  have voted (v : Vector Nat 24) : s.Calm { s with port.decimation := v } := s.calm_port fun b => { b with }
  split
  · exact .refl s
  · dsimp only
    split
    · exact (voted _).trans (State.offerForward_calm ..)
    · exact voted _

theorem State.discardStation_calm (s : State) : s.Calm s.discardStation := by
  unfold State.discardStation
  have counted (n : Nat) : s.Calm { s with port.crcDiscards := n } := s.calm_port fun b => { b with }
  dsimp only
  split
  · exact (counted _).trans (State.raise_calm ..)
  · exact counted _

/-- A reply placed while the REPLY class has room (R166). -/
theorem State.placeReply_calm {s : State} (r : Reply) (room : s.replyRoom = true) : s.Calm (s.placeReply r) := by
  have space : s.port.replyQ.length + s.port.heldReplies.length < 4 := of_decide_eq_true room
  exact s.calm_port fun b => { b with replyQ := by simp; omega }

theorem State.answer_calm {s : State} (c : Command) (st : Status) (results : List Byte) (room : s.replyRoom = true) :
    s.Calm (s.answer c st results) := State.placeReply_calm _ room

theorem State.drawIndex_calm (s : State) : s.Calm s.drawIndex.2 := s.calm_with ..

theorem State.drawByte_calm (s : State) : s.Calm s.drawByte.2 := s.calm_with ..

theorem State.answerRangeFree_calm {s : State} (c : Command) (room : s.replyRoom = true) : s.Calm (s.answerRangeFree c) :=
  s.drawIndex_calm.trans (State.answer_calm (s := s.drawIndex.2) c _ _ room)

theorem State.receiveCommand_calm (s : State) (c : Command) : s.Calm (s.receiveCommand c) := by
  unfold State.receiveCommand
  split
  · next space => exact s.calm_port fun b => { b with commands := by simpa [commandCapacity] using space }
  · split
    · next room =>
      split
      · exact State.answer_calm c _ _ room
      · exact s.drawByte_calm.trans (State.placeReply_calm (s := s.drawByte.2) _ room)
    · exact s.calm_port fun b => { b with }

/-- The command at the front is taken. -/
theorem State.takeCommand_calm {s : State} {c : Command} {rest : List Command} (front : s.port.commands = c :: rest) :
    s.Calm { s with port.commands := rest } :=
  s.calm_port fun b =>
    have within : rest.length + 1 ≤ 4 := by simpa [front] using b.commands
    { b with commands := Nat.le_of_succ_le within }

end Sys2Proof.Machine

/-!
PROOFS. The five laws of a sound state, second part: what keeps all five at once, for the operations that do change what a
law reads.
-/

namespace Sys2Proof.Machine

/-! ## Keeping the laws -/

/-- The laws of `s` beside those of the session controller hold of `t` too. -/
structure State.KeepsStore (s t : State) : Prop where
  bounded : s.Bounded → t.Bounded
  axles : s.AxleTableSound → t.AxleTableSound
  reports : s.ReportsBalanced → t.ReportsBalanced
  offsets : s.OffsetsSound → t.OffsetsSound

/-- Each of the five laws of a sound state that holds of `s` holds of `t`. -/
structure State.Keeps (s t : State) : Prop extends s.KeepsStore t where
  session : s.SessionSound → t.SessionSound

theorem State.KeepsStore.trans {s t u : State} (first : s.KeepsStore t) (second : t.KeepsStore u) : s.KeepsStore u where
  bounded := second.bounded ∘ first.bounded
  axles := second.axles ∘ first.axles
  reports := second.reports ∘ first.reports
  offsets := second.offsets ∘ first.offsets

theorem State.Keeps.refl (s : State) : s.Keeps s := ⟨⟨id, id, id, id⟩, id⟩

theorem State.Keeps.trans {s t u : State} (first : s.Keeps t) (second : t.Keeps u) : s.Keeps u :=
  ⟨first.toKeepsStore.trans second.toKeepsStore, second.session ∘ first.session⟩

/-! ## What each law reads -/

theorem State.SessionSound.of_eq {s t : State} (session : t.session = s.session) (site : t.site = s.site)
    (sound : s.SessionSound) : t.SessionSound := by
  obtain ⟨power, ready, arm, standstill, clear, abandon, idle, settle, record⟩ := sound
  constructor <;> simpa only [session, site]

theorem StationPort.Bounded.of_state {s : State} (b : s.Bounded) : s.port.Bounded :=
  ⟨b.commands, b.alertQ, b.replyQ, b.reportQ, b.resultQ, b.forwardQ⟩

theorem State.Bounded.of_parts {t : State} (headA : t.heads.a.QueuesBounded) (headB : t.heads.b.QueuesBounded)
    (held : t.session.held.length ≤ 8) (rings : ∀ i : ChanIdx, (t.rings[i]).length ≤ 8192)
    (camera : t.gate.queue.length ≤ 4) (port : t.port.Bounded) : t.Bounded :=
  ⟨headA, headB, held, rings, camera, port.commands, port.alertQ, port.replyQ, port.reportQ, port.resultQ, port.forwardQ⟩

theorem State.entryCount_eq {s t : State} (heads : t.heads = s.heads) (entry : t.session.entryHead = s.session.entryHead) :
    t.entryCount = s.entryCount := by
  simp only [State.entryCount, State.head, heads, entry]

/-- The law of the Axle Table reads its ordinals, its high-water count, the entry head and the head counts. -/
theorem State.AxleTableSound.of_eq {s t : State}
    (ordinals : t.axles.records.map (·.ordinal) = s.axles.records.map (·.ordinal))
    (highWater : t.axles.highWater = s.axles.highWater) (entry : t.session.entryHead = s.session.entryHead)
    (counts : ∀ h, (t.head h).count = (s.head h).count) (sound : s.AxleTableSound) : t.AxleTableSound := by
  have size : t.axles.records.length = s.axles.records.length := by simpa using congrArg List.length ordinals
  constructor
  · rw [ordinals, size, sound.ordinals]
  · rw [size, highWater, sound.size]
  · have same : t.entryCount = s.entryCount := by simp only [State.entryCount, entry, counts]
    rw [same, highWater]
    exact sound.entry
  · intro none
    have a : t.heads.a.count = s.heads.a.count := counts .a
    have b : t.heads.b.count = s.heads.b.count := counts .b
    rw [a, b, highWater]
    exact sound.fresh (entry ▸ none)

theorem State.ReportsBalanced.of_eq {s t : State} (report : t.report = s.report) (sound : s.ReportsBalanced) :
    t.ReportsBalanced := by
  obtain ⟨balance, holds⟩ := sound
  constructor <;> simpa only [report]

theorem State.channel?_eq {s t : State} (channels : t.tables.active.channels = s.tables.active.channels) (i : ChanIdx) :
    t.channel? i = s.channel? i := by
  simp only [State.channel?, channels]

theorem State.OffsetsSound.of_eq {s t : State} (zero : t.load.zero = s.load.zero)
    (channels : t.tables.active.channels = s.tables.active.channels) (sound : s.OffsetsSound) : t.OffsetsSound := by
  obtain ⟨holder, span, block⟩ := sound
  constructor <;> simpa only [zero, State.channel?_eq channels]

/-! ## Changes that keep the laws because the laws hardly read them -/

theorem State.Calm.keeps {s t : State} (calm : s.Calm t) : s.Keeps t where
  session := .of_eq calm.session (by simp only [State.site, calm.tables])
  bounded b := .of_parts (by simpa only [calm.heads] using b.headA) (by simpa only [calm.heads] using b.headB)
    (by simpa only [calm.session] using b.held) (by simpa only [calm.rings] using b.rings)
    (by simpa only [calm.camera] using b.camera) (calm.port (.of_state b))
  axles := .of_eq calm.ordinals calm.highWater (by rw [calm.session]) (fun h => by simp only [State.head, calm.heads])
  reports := .of_eq calm.report
  offsets := .of_eq calm.zero (by rw [calm.tables])

/-- Two heads that no law tells apart: the same count, and queues bounded in the second if they are in the first. -/
structure HeadState.Alike (x y : HeadState) : Prop where
  count : y.count = x.count
  queues : x.QueuesBounded → y.QueuesBounded

theorem State.keeps_heads (s : State) {heads : PerHead HeadState} (a : s.heads.a.Alike heads.a)
    (b : s.heads.b.Alike heads.b) : s.Keeps { s with heads := heads } where
  session := .of_eq rfl rfl
  bounded bd := .of_parts (a.queues bd.headA) (b.queues bd.headB) bd.held bd.rings bd.camera (.of_state (s := s) bd)
  axles := .of_eq rfl rfl rfl fun h => by
    cases h
    · exact a.count
    · exact b.count
  reports := .of_eq rfl
  offsets := .of_eq rfl rfl

theorem HeadState.Alike.refl (x : HeadState) : x.Alike x := ⟨rfl, id⟩

theorem State.setHead_keeps (s : State) {h : Head} {x : HeadState} (alike : (s.head h).Alike x) :
    s.Keeps (s.setHead h x) := by
  cases h with
  | a => exact s.keeps_heads alike (.refl _)
  | b => exact s.keeps_heads (.refl _) alike

/-- Two session controllers that no law tells apart. -/
structure SessionCtl.Alike (c d : SessionCtl) : Prop where
  state : d.state = c.state
  power : d.power = c.power
  arm : d.arm.isSome = c.arm.isSome
  standstill : d.standstill.isSome = c.standstill.isSome
  clear : d.clear.isSome = c.clear.isSome
  abandon : d.abandon.isSome = c.abandon.isSome
  idle : d.idle.isSome = c.idle.isSome
  settle : d.settle.isSome = c.settle.isSome
  settleState : d.settleState = c.settleState
  record : d.record.seq = c.record.seq
  seq : d.seq = c.seq

/-- A session law that holds of the one controller holds of the other. -/
theorem State.SessionSound.of_alike {s : State} {c : SessionCtl} (alike : s.session.Alike c) (sound : s.SessionSound) :
    State.SessionSound { s with session := c } := by
  obtain ⟨power, ready, arm, standstill, clear, abandon, idle, settle, record⟩ := sound
  constructor
  · rw [alike.power, alike.state]; exact power
  · rw [alike.state]; exact ready
  · rw [alike.arm, alike.state]; exact arm
  · rw [alike.standstill, alike.state]; exact standstill
  · rw [alike.clear, alike.state]; exact clear
  · rw [alike.abandon, alike.state]; exact abandon
  · rw [alike.idle, alike.state]; exact idle
  · rw [alike.settle, alike.settleState]; exact settle
  · rw [alike.record, alike.seq]; exact record

/-- A change of the session controller is left to its own laws: the session laws, the held crossings and the entry head. -/
theorem State.keeps_session (s : State) {c : SessionCtl} (sound : s.SessionSound → State.SessionSound { s with session := c })
    (held : s.session.held.length ≤ 8 → c.held.length ≤ 8) (entry : c.entryHead = s.session.entryHead) :
    s.Keeps { s with session := c } where
  session := sound
  bounded b := .of_parts b.headA b.headB (held b.held) b.rings b.camera (.of_state (s := s) b)
  axles := .of_eq rfl rfl entry fun _ => rfl
  reports := .of_eq rfl
  offsets := .of_eq rfl rfl

theorem State.keeps_alike (s : State) {c : SessionCtl} (alike : s.session.Alike c) (held : c.held = s.session.held)
    (entry : c.entryHead = s.session.entryHead) : s.Keeps { s with session := c } :=
  s.keeps_session (.of_alike alike) (held ▸ id) entry

/-! ## The passing of time -/

theorem State.advance_keeps (s : State) (dt : Time) : s.Keeps (s.advance dt) := by
  have aged (heads : PerHead HeadState) (clock : Time) (u : State) : u.Calm { u with clock := clock } := u.calm_with ..
  exact (s.keeps_heads (heads := (s.advance dt).heads) ⟨rfl, id⟩ ⟨rfl, id⟩).trans (State.calm_with ..).keeps

/-! ## Heads (chapter 1) -/

/-- A line's queue exchanged for another keeps the bound of both where the new one has it. -/
theorem HeadState.setLine_alike (hs : HeadState) {c : Coil} {l : CoilLine}
    (queue : (hs.line c).queue.length ≤ 4 → l.queue.length ≤ 4) : hs.Alike (hs.setLine c l) := by
  cases c with
  | c1 => exact ⟨rfl, fun b => ⟨queue b.1, b.2⟩⟩
  | c2 => exact ⟨rfl, fun b => ⟨b.1, queue b.2⟩⟩

theorem HeadState.Alike.trans {x y z : HeadState} (first : x.Alike y) (second : y.Alike z) : x.Alike z :=
  ⟨second.count.trans first.count, second.queues ∘ first.queues⟩

theorem State.headFault_keeps (s : State) (h : Head) : s.Keeps (s.headFault h) :=
  (s.setHead_keeps (by exact ⟨rfl, id⟩)).trans (State.raise_calm ..).keeps

theorem State.setPin_keeps (s : State) (h : Head) (c : Coil) (lvl : Bool) : s.Keeps (s.setPin h c lvl) :=
  s.setHead_keeps (HeadState.setLine_alike _ id)

theorem State.formCandidate_keeps (s : State) (h : Head) (c : Coil) (lvl : Bool) : s.Keeps (s.formCandidate h c lvl) :=
  s.setHead_keeps (HeadState.setLine_alike _ id)

theorem State.dropPulse_keeps (s : State) (h : Head) (c : Coil) : s.Keeps (s.dropPulse h c) :=
  have dropped : (s.head h).Alike ((s.head h).setLine c { (s.head h).line c with candidate := none }) :=
    HeadState.setLine_alike _ id
  s.setHead_keeps (dropped.trans ⟨rfl, id⟩)

/-- A commitment to a full queue drops its oldest edge (R6). -/
theorem CoilLine.commit_queue_le (l : CoilLine) (cand : Candidate) (within : l.queue.length ≤ 4) :
    (l.commit cand).queue.length ≤ 4 := by
  unfold CoilLine.commit
  dsimp only
  split
  · next room => simpa [queueCapacity] using room
  · simp; omega

theorem State.commitCandidate_keeps (s : State) (h : Head) (c : Coil) (cand : Candidate) :
    s.Keeps (s.commitCandidate h c cand) := by
  unfold State.commitCandidate
  have alike := HeadState.setLine_alike (s.head h) (((s.head h).line c).commit_queue_le cand)
  dsimp only
  split
  · exact (s.setHead_keeps (alike.trans (by exact ⟨rfl, id⟩))).trans (State.headFault_keeps ..)
  · exact s.setHead_keeps alike

theorem State.pinTransition_keeps (s : State) (h : Head) (c : Coil) (lvl : Bool) :
    s.Keeps (s.pinTransition h c lvl) := by
  unfold State.pinTransition
  have pinned := s.setPin_keeps h c lvl
  dsimp only
  split
  · exact .refl s
  · split
    · split
      · exact pinned
      · exact pinned.trans (State.formCandidate_keeps ..)
    · split
      · exact pinned.trans (State.dropPulse_keeps ..)
      · exact (pinned.trans (State.commitCandidate_keeps ..)).trans (State.formCandidate_keeps ..)

theorem HeadState.settleResync_alike (hs : HeadState) : hs.Alike hs.settleResync := by
  unfold HeadState.settleResync
  split <;> exact ⟨rfl, id⟩

theorem HeadState.setPhase_alike (hs : HeadState) (c : Coil) (lvl : Bool) : hs.Alike (hs.setPhase c lvl) := by
  cases c <;> exact ⟨rfl, id⟩

theorem HeadState.step_alike (hs : HeadState) (c : Coil) (e : Edge) : hs.Alike (hs.step c e).head := by
  have taken : hs.Alike (hs.setLine c (hs.line c).take) := HeadState.setLine_alike _ fun within => by
    simp only [CoilLine.take, List.length_drop]; omega
  unfold HeadState.step
  dsimp only
  split
  · exact (taken.trans (by exact ⟨rfl, id⟩)).trans (HeadState.settleResync_alike _)
  · split
    · exact ((taken.trans (HeadState.setPhase_alike ..)).trans (by exact ⟨rfl, id⟩)).trans (HeadState.settleResync_alike _)
    · exact (taken.trans (HeadState.setPhase_alike _ c e.rise)).trans (by exact ⟨rfl, id⟩)

theorem State.decode_keeps (s : State) (h : Head) : s.Keeps (s.decode h) := by
  unfold State.decode
  split
  · exact .refl s
  · split
    · exact .refl s
    · split
      · exact .refl s
      · unfold State.applyStep
        have stepped (c : Coil) (e : Edge) (out : List Crossing) : s.Keeps (s.setHead h
            { ((s.head h).step c e).head with busy := decoderStepTime, emitted := out }) :=
          s.setHead_keeps (((s.head h).step_alike c e).trans ⟨rfl, id⟩)
        dsimp only
        split
        · exact (stepped ..).trans (State.headFault_keeps ..)
        · exact stepped ..

/-! ## Rings and autozero (chapters 4 and 5) -/

theorem State.keeps_rings (s : State) {rings : Vector (List Sample) 24}
    (bounded : (∀ i : ChanIdx, (s.rings[i]).length ≤ 8192) → ∀ i : ChanIdx, (rings[i]).length ≤ 8192) :
    s.Keeps { s with rings := rings } where
  session := .of_eq rfl rfl
  bounded b := .of_parts b.headA b.headB b.held (bounded b.rings) b.camera (.of_state (s := s) b)
  axles := .of_eq rfl rfl rfl fun _ => rfl
  reports := .of_eq rfl
  offsets := .of_eq rfl rfl

/-- An entry of a vector after one entry was written. -/
theorem Vec.getElem_set_fin {α : Type} {n : Nat} (v : Vector α n) (i j : Fin n) (x : α) :
    (v.set i x)[j] = if i = j then x else v[j] := by
  simp [Vector.getElem_set, Fin.ext_iff]

theorem State.setRing_keeps (s : State) (i : ChanIdx) {ring : List Sample}
    (bounded : (s.rings[i]).length ≤ 8192 → ring.length ≤ 8192) : s.Keeps { s with rings := s.rings.set i ring } :=
  s.keeps_rings fun b j => by
    rw [Vec.getElem_set_fin]
    split
    · exact bounded (b i)
    · exact b j

theorem ringPush_length_le (ring : List Sample) (x : Sample) (within : ring.length ≤ 8192) :
    (ringPush ring x).length ≤ 8192 := by
  unfold ringPush
  split
  · next room => simpa [ringCapacity] using room
  · simp; omega

theorem State.emptyRing_keeps (s : State) (i : ChanIdx) : s.Keeps (s.emptyRing i) :=
  s.setRing_keeps i fun _ => Nat.zero_le _

/-- The law of the tracked offsets, of tracking states that stand beside the tables of `s`. -/
structure State.ZeroSound (s : State) (zero : Vector (Option ZeroTrack) 24) : Prop where
  holder : ∀ i : ChanIdx, (zero[i]).isSome = true ↔ ∃ e, s.channel? i = some e ∧ e.kind = .load
  span : ∀ (i : ChanIdx) (z : ZeroTrack) (e : Channel), zero[i] = some z → s.channel? i = some e →
    e.offset - 512 ≤ z.offset ∧ z.offset ≤ e.offset + 512
  block : ∀ (i : ChanIdx) (z : ZeroTrack), zero[i] = some z → z.count ≤ 256

/-- The tracking states rewritten after a change that keeps the laws. -/
theorem State.Keeps.setZeros {s u : State} (first : s.Keeps u) {zero : Vector (Option ZeroTrack) 24}
    (sound : s.OffsetsSound → u.ZeroSound zero) : s.Keeps { u with load.zero := zero } where
  session before := .of_eq (s := u) rfl rfl (first.session before)
  bounded before :=
    have b := first.bounded before
    .of_parts b.headA b.headB b.held b.rings b.camera (.of_state (s := u) b)
  axles before := .of_eq (s := u) rfl rfl rfl (fun _ => rfl) (first.axles before)
  reports before := .of_eq (s := u) rfl (first.reports before)
  offsets before := ⟨(sound before).holder, (sound before).span, (sound before).block⟩

/-- The tracking state of an index written: its offset stays within the span of the loaded one, its block within 256. -/
theorem State.Keeps.setZero {s u : State} (first : s.Keeps u) {i : ChanIdx} {z : ZeroTrack}
    (tracked : (u.load.zero[i]).isSome = true)
    (sound : s.OffsetsSound → z.count ≤ 256 ∧
      ∀ e, u.channel? i = some e → e.offset - 512 ≤ z.offset ∧ z.offset ≤ e.offset + 512) : s.Keeps (u.setZero i z) := by
  refine first.setZeros fun initial => ?_
  obtain ⟨block, span⟩ := sound initial
  have before := first.offsets initial
  refine ⟨fun j => ?_, fun j y e => ?_, fun j y => ?_⟩
  · rw [Vec.getElem_set_fin]
    split
    · next same => exact same ▸ iff_of_true rfl ((before.holder i).1 tracked)
    · exact before.holder j
  · rw [Vec.getElem_set_fin]
    split
    · next same =>
      rintro ⟨⟩
      exact same ▸ span e
    · exact before.span j y e
  · rw [Vec.getElem_set_fin]
    split
    · rintro ⟨⟩
      exact block
    · exact before.block j y

theorem State.endBlock_keeps (s : State) (i : ChanIdx) : s.Keeps (s.endBlock i) := by
  unfold State.endBlock
  split
  · next z e tracked valid =>
    have moved : s.Keeps (s.setZero i (z.blockEnd e.offset)) := by
      refine (State.Keeps.refl s).setZero (by rw [tracked]; rfl) fun _ => ⟨Nat.zero_le _, fun f valid' => ?_⟩
      obtain rfl : e = f := Option.some.inj (valid.symm.trans valid')
      exact clamp_bounds _ (by simp only [zeroSpan]; omega)
    dsimp only
    split
    · exact moved.trans (State.raise_calm ..).keeps
    · exact moved
  · exact .refl s

/-- After a full block of a tracked index has ended its accumulator is empty. -/
theorem State.endBlock_count {s : State} {i : ChanIdx} {z y : ZeroTrack} (tracked : s.load.zero[i] = some z)
    {e : Channel} (valid : s.channel? i = some e) (after : (s.endBlock i).load.zero[i] = some y) : y.count = 0 := by
  rw [State.endBlock_of_tracked tracked valid] at after
  have moved : (s.setZero i (z.blockEnd e.offset)).load.zero[i] = some (z.blockEnd e.offset) := by
    simp [State.setZero]
  split at after <;> simp only [State.raise_frame, moved, Option.some.injEq] at after <;> rw [← after] <;> rfl

/-- A tracking state with as much as one more sample in a block that was not full. -/
theorem State.OffsetsSound.counted {s : State} (sound : s.OffsetsSound) {i : ChanIdx} {z y : ZeroTrack}
    (tracked : s.load.zero[i] = some z) (offset : y.offset = z.offset) (count : y.count ≤ 256) :
    y.count ≤ 256 ∧ ∀ e, s.channel? i = some e → e.offset - 512 ≤ y.offset ∧ y.offset ≤ e.offset + 512 :=
  ⟨count, fun e valid => offset ▸ sound.span i z e tracked valid⟩

/-- A stored sample joins a block that is not full (R100). -/
def State.joinBlock (s : State) (i : ChanIdx) (x : Sample) : State :=
  match s.load.zero[i] with
  | none => s
  | some z =>
    if !s.usable i || clippedRaw x.raw then s.setZero i z.emptied
    else if x.gap then s.setZero i { z with count := 1, sum := x.raw.toInt }
    else s.setZero i { z with count := z.count + 1, sum := z.sum + x.raw.toInt }

/-- The block of an index ends if it is full (R101). -/
def State.endFullBlock (s : State) (i : ChanIdx) : State :=
  match s.load.zero[i] with
  | some z => if blockLength ≤ z.count then s.endBlock i else s
  | none => s

theorem State.offerZero_eq (s : State) (i : ChanIdx) (x : Sample) :
    s.offerZero i x = if !s.autozeroRunning then s else (s.endFullBlock i).joinBlock i x := rfl

theorem State.endFullBlock_keeps (s : State) (i : ChanIdx) : s.Keeps (s.endFullBlock i) := by
  unfold State.endFullBlock
  split
  · split
    · exact s.endBlock_keeps i
    · exact .refl s
  · exact .refl s

theorem State.endFullBlock_count {s : State} (sound : s.OffsetsSound) {i : ChanIdx} {y : ZeroTrack}
    (after : (s.endFullBlock i).load.zero[i] = some y) : y.count < 256 := by
  unfold State.endFullBlock at after
  cases tracked : s.load.zero[i] with
  | none => simp [tracked] at after
  | some z =>
    simp only [tracked] at after
    split at after
    · obtain ⟨e, valid, -⟩ := (sound.holder i).1 (by rw [tracked]; rfl)
      rw [State.endBlock_count tracked valid after]
      omega
    · next short =>
      obtain rfl : z = y := Option.some.inj (tracked.symm.trans after)
      simpa [blockLength] using short

theorem State.Keeps.joinBlock {s u : State} (first : s.Keeps u) {i : ChanIdx} (x : Sample)
    (room : s.OffsetsSound → ∀ z, u.load.zero[i] = some z → z.count < 256) : s.Keeps (u.joinBlock i x) := by
  unfold State.joinBlock
  split
  · exact first
  · next z tracked =>
    have written {y : ZeroTrack} (offset : y.offset = z.offset) (count : z.count < 256 → y.count ≤ 256) :
        s.Keeps (u.setZero i y) :=
      first.setZero (by rw [tracked]; rfl) fun sound =>
        (first.offsets sound).counted tracked offset (count (room sound z tracked))
    split
    · exact written rfl fun _ => Nat.zero_le _
    · split
      · exact written rfl fun _ => show 1 ≤ 256 by decide
      · exact written rfl id

theorem State.offerZero_keeps (s : State) (i : ChanIdx) (x : Sample) : s.Keeps (s.offerZero i x) := by
  rw [State.offerZero_eq]
  split
  · exact .refl s
  · exact (s.endFullBlock_keeps i).joinBlock x fun sound _ => State.endFullBlock_count sound

theorem State.storeSample_keeps (s : State) (i : ChanIdx) (t : Time) (r : Half) : s.Keeps (s.storeSample i t r) := by
  unfold State.storeSample
  split
  · exact .refl s
  · exact (s.setRing_keeps i (ringPush_length_le _ _)).trans (State.offerZero_keeps ..)

theorem State.storeRun_keeps (s : State) (i : ChanIdx) (t : Time) (l : List Half) : s.Keeps (s.storeRun i t l) := by
  induction l generalizing s t with
  | nil => exact .refl s
  | cons r l ih => exact (s.storeSample_keeps i t r).trans (ih ..)

theorem State.storeChannels_keeps (s : State) (k : NodeAddr) (first : Time) (ch : Nat) (l : List (List Half)) :
    s.Keeps (s.storeChannels k first ch l) := by
  induction l generalizing s ch with
  | nil => exact .refl s
  | cons run l ih =>
    unfold State.storeChannels
    split
    · exact (s.storeRun_keeps ..).trans (ih ..)
    · exact ih ..

theorem State.storeFrame_keeps (s : State) (k : NodeAddr) (first : Time) (chs : List (List Half)) :
    s.Keeps (s.storeFrame k first chs) := by
  unfold State.storeFrame
  split
  · exact .refl s
  · exact s.storeChannels_keeps ..

/-- Emptied accumulators keep their offsets (R102). -/
theorem State.emptyBlocks_keeps (s : State) : s.Keeps s.emptyBlocks := by
  refine (State.Keeps.refl s).setZeros fun sound => ?_
  have emptied (i : ChanIdx) :
      (Vec.map (fun z => z.map ZeroTrack.emptied) s.load.zero)[i] = (s.load.zero[i]).map ZeroTrack.emptied := Vec.map_get ..
  refine ⟨fun i => ?_, fun i y e after valid => ?_, fun i y after => ?_⟩
  · simpa only [emptied, Option.isSome_map] using sound.holder i
  · simp only [emptied, Option.map_eq_some_iff] at after
    obtain ⟨z, tracked, rfl⟩ := after
    exact sound.span i z e tracked valid
  · simp only [emptied, Option.map_eq_some_iff] at after
    obtain ⟨z, tracked, rfl⟩ := after
    exact Nat.zero_le _

end Sys2Proof.Machine

/-!
PROOFS. The five laws of a sound state, third part: the axle tracker's new records, the session controller, the tables and
the Report Store.
-/

namespace Sys2Proof.Machine

/-! ## The camera and new axle records (R47, R149) -/

theorem insertPulse_length (p : CameraPulse) (l : List CameraPulse) : (insertPulse p l).length = l.length + 1 := by
  induction l with
  | nil => rfl
  | cons q l ih =>
    unfold insertPulse
    split
    · rfl
    · simp [ih]

theorem State.keeps_camera (s : State) {queue : List CameraPulse} (within : s.gate.queue.length ≤ 4 → queue.length ≤ 4) :
    s.Keeps { s with gate.queue := queue } where
  session := .of_eq rfl rfl
  bounded b := .of_parts b.headA b.headB b.held b.rings (within b.camera) (.of_state (s := s) b)
  axles := .of_eq rfl rfl rfl fun _ => rfl
  reports := .of_eq rfl
  offsets := .of_eq rfl rfl

theorem State.placePulse_keeps (s : State) (p : CameraPulse) : s.Keeps (s.placePulse p) := by
  unfold State.placePulse
  split
  · exact (s.writeCamera_calm ..).keeps
  · next room =>
    split
    · exact (s.startPulse_calm p).keeps
    · refine s.keeps_camera fun _ => ?_
      rw [insertPulse_length]
      simpa [cameraCapacity] using room

theorem State.scheduleCamera_keeps (s : State) (k : Nat) (x : Crossing) : s.Keeps (s.scheduleCamera k x) := by
  unfold State.scheduleCamera
  split
  · split
    · exact .refl s
    · exact s.placePulse_keeps _
  · exact .refl s

/-- A change of the heads and the Axle Table is left to the law of the Axle Table. -/
theorem State.keeps_tracker (s : State) {heads : PerHead HeadState} {axles : AxleTracker}
    (a : s.heads.a.QueuesBounded → heads.a.QueuesBounded) (b : s.heads.b.QueuesBounded → heads.b.QueuesBounded)
    (sound : s.AxleTableSound → State.AxleTableSound { s with heads := heads, axles := axles }) :
    s.Keeps { s with heads := heads, axles := axles } where
  session := .of_eq rfl rfl
  bounded bd := .of_parts (a bd.headA) (b bd.headB) bd.held bd.rings bd.camera (.of_state (s := s) bd)
  axles := sound
  reports := .of_eq rfl
  offsets := .of_eq rfl rfl

theorem State.setCount_head (s : State) (h g : Head) (n : Nat) :
    ((s.setCount h n).head g).count = if g = h then n else (s.head g).count := by
  cases h <;> cases g <;> rfl

/-- The count of a head of an open session is written with the Axle Table beside it. -/
theorem State.setCount_keeps_axles (s : State) {h : Head} {n : Nat} {axles : AxleTracker}
    (entered : s.session.entryHead ≠ none)
    (sound : s.AxleTableSound → axles.records.map (·.ordinal) = List.range' 1 axles.records.length ∧
      axles.records.length = min 1024 axles.highWater ∧ s.axles.highWater ≤ axles.highWater ∧
      (s.session.entryHead = some h → n ≤ axles.highWater)) :
    s.Keeps { s.setCount h n with axles := axles } := by
  refine s.keeps_tracker (by cases h <;> exact id) (by cases h <;> exact id) fun before => ?_
  obtain ⟨ordinals, size, grown, within⟩ := sound before
  refine ⟨ordinals, size, ?_, fun none => absurd none entered⟩
  obtain ⟨g, entry⟩ := Option.ne_none_iff_exists'.1 entered
  have counted : s.entryCount = (s.head g).count := by simp only [State.entryCount, entry]
  have count : State.entryCount { s.setCount h n with axles := axles } = if g = h then n else (s.head g).count := by
    rw [← s.setCount_head h g n]
    simp only [State.entryCount, State.setCount, State.setHead, entry]
    rfl
  refine (Nat.le_of_eq count).trans ?_
  split
  · next same => exact within (same ▸ entry)
  · exact counted ▸ before.entry.trans grown

theorem State.setCount_keeps (s : State) {h : Head} {n : Nat} (entered : s.session.entryHead ≠ none)
    (within : s.AxleTableSound → s.session.entryHead = some h → n ≤ s.axles.highWater) : s.Keeps (s.setCount h n) :=
  s.setCount_keeps_axles (axles := s.axles) entered fun sound =>
    ⟨sound.ordinals, sound.size, Nat.le_refl _, within sound⟩

theorem State.entryCount_of_entry {s : State} {h : Head} (entry : s.session.entryHead = some h) :
    s.entryCount = (s.head h).count := by
  simp only [State.entryCount, entry]

/-- The entry count rises to an ordinal above the high-water count: the two stay equal (R47). -/
theorem State.newOrdinal_keeps (s : State) {h : Head} (x : Crossing) (entry : s.session.entryHead = some h)
    (new : s.axles.highWater < (s.head h).count + 1) :
    s.Keeps ((s.setCount h ((s.head h).count + 1)).newOrdinal ((s.head h).count + 1) x) := by
  have entered : s.session.entryHead ≠ none := by simp [entry]
  have level (sound : s.AxleTableSound) : (s.head h).count = s.axles.highWater := by
    have := sound.entry
    rw [State.entryCount_of_entry entry] at this
    omega
  have raised (truncated : Bool) (above : 1024 < (s.head h).count + 1) :
      s.Keeps { s.setCount h ((s.head h).count + 1) with
        axles := { s.axles with highWater := (s.head h).count + 1, truncated := truncated } } :=
    s.setCount_keeps_axles entered fun sound => by
      have same := level sound
      have size := sound.size
      exact ⟨sound.ordinals, by dsimp only; omega, by dsimp only; omega, fun _ => Nat.le_refl _⟩
  unfold State.newOrdinal
  split
  · next within =>
    refine s.setCount_keeps_axles (axles := { s.axles with
      highWater := (s.head h).count + 1
      records := s.axles.records ++ [newRecord ((s.head h).count + 1) x] }) entered fun sound => ?_
    have same := level sound
    have size := sound.size
    simp only [axleCapacity] at within
    have length : s.axles.records.length = (s.head h).count := by omega
    refine ⟨?_, by simp; omega, by dsimp only; omega, fun _ => Nat.le_refl _⟩
    rw [List.map_append, sound.ordinals, List.length_append, List.length_singleton, List.range'_concat, length]
    simp [newRecord, Nat.add_comm]
  · next above =>
    have above : 1024 < (s.head h).count + 1 := Nat.lt_of_not_le above
    split
    · exact raised s.axles.truncated above
    · exact (raised true above).trans (State.raise_calm ..).keeps

/-- A rise of the entry count that creates no record is calm. -/
theorem State.entryRise_calm {s : State} {k : Nat} (x : Crossing) (old : k ≤ s.axles.highWater) :
    s.Calm (s.entryRise k x) := by
  unfold State.entryRise
  rw [if_neg (Nat.not_lt.2 old)]
  split
  · split
    · exact s.updRecord_calm k (by intros; assumption)
    · exact s.countMismatch_calm
  · exact .refl s

theorem State.entryRise_keeps (s : State) {h : Head} (x : Crossing) (entry : s.session.entryHead = some h) :
    s.Keeps ((s.setCount h ((s.head h).count + 1)).entryRise ((s.head h).count + 1) x) := by
  by_cases new : s.axles.highWater < (s.head h).count + 1
  · have created := (s.newOrdinal_keeps x entry new).trans (State.scheduleCamera_keeps _ ((s.head h).count + 1) x)
    unfold State.entryRise
    rwa [if_pos (show (s.setCount h ((s.head h).count + 1)).axles.highWater < _ from new)]
  · have old : (s.head h).count + 1 ≤ s.axles.highWater := Nat.le_of_not_lt new
    exact (s.setCount_keeps (by simp [entry]) fun _ _ => old).trans
      (State.entryRise_calm (s := s.setCount h ((s.head h).count + 1)) x old).keeps

theorem State.countCrossing_keeps (s : State) (x : Crossing) (withSession : Bool) (entered : s.session.entryHead ≠ none) :
    s.Keeps (s.countCrossing x withSession) := by
  have lowered : s.Keeps (s.setCount x.head ((s.head x.head).count - 1)) := s.setCount_keeps entered fun sound entry => by
    have := sound.entry
    rw [State.entryCount_of_entry entry] at this
    omega
  unfold State.countCrossing
  dsimp only
  split
  · split
    · exact .refl s
    · split
      · next entry => exact s.entryRise_keeps x (of_decide_eq_true entry)
      · next exit =>
        refine (s.setCount_keeps entered fun _ entry => ?_).trans (State.exitRise_calm ..).keeps
        exact absurd (decide_eq_true entry) exit
  · split
    · exact s.headFault_keeps _
    · split
      · exact lowered.trans (State.entryFall_calm ..).keeps
      · exact lowered.trans (State.exitFall_calm ..).keeps

/-! ## The session controller (chapter 2) -/

/-- Each of the five session timers runs exactly in its state (Table 2.3). -/
structure SessionCtl.TimersMatch (c : SessionCtl) : Prop where
  arm : c.arm.isSome = true ↔ c.state = .armed
  standstill : c.standstill.isSome = true ↔ c.state = .inTrain
  clear : c.clear.isSome = true ↔ c.state = .clearing
  abandon : c.abandon.isSome = true ↔ c.state = .stopped
  idle : c.idle.isSome = true ↔ c.state = .idle

/-- The part can be at work: ACTIVE, with Site Constants, its settle timer running exactly while SETTLING. -/
structure State.Awake (s : State) : Prop where
  power : s.session.power ≠ .standby
  site : s.site ≠ none
  settle : s.session.settle.isSome = true ↔ s.session.settleState = .settling

/-- A session state other than NOT_READY and STANDBY. -/
def SessionState.atWork (st : SessionState) : Prop := st ≠ .notReady ∧ st ≠ .standby

theorem State.SessionSound.awake {s : State} (sound : s.SessionSound) (work : s.session.state.atWork) : s.Awake where
  power asleep := work.2 (sound.power.1 asleep)
  site none := work.1 (sound.ready.2 none)
  settle := sound.settle

theorem State.Awake.sound {s : State} (awake : s.Awake) (work : s.session.state.atWork) (timers : s.session.TimersMatch)
    (record : s.session.record.seq = s.session.seq) : s.SessionSound :=
  ⟨iff_of_false awake.power work.2, iff_of_false work.1 awake.site, timers.arm, timers.standstill, timers.clear,
    timers.abandon, timers.idle, awake.settle, record⟩

/-- The session controller goes over from a state at work to another, each with its timer. -/
theorem State.SessionSound.goOver {s : State} {c : SessionCtl} (sound : s.SessionSound)
    (work : s.session.state.atWork) (after : c.state.atWork) (timers : c.TimersMatch) (power : c.power = s.session.power)
    (settle : c.settle = s.session.settle) (settleState : c.settleState = s.session.settleState)
    (record : c.record.seq = c.seq) : State.SessionSound { s with session := c } := by
  have awake := sound.awake work
  exact State.Awake.sound ⟨power ▸ awake.power, awake.site, by rw [settle, settleState]; exact awake.settle⟩ after timers
    record

theorem SessionState.atWork_of_mem {st : SessionState}
    (mem : st ∈ [SessionState.idle, .armed, .inTrain, .stopped, .clearing, .closing]) : st.atWork := by
  constructor <;> rintro rfl <;> simp at mem

theorem State.enterInTrain_keeps {s : State} (work : s.session.state.atWork) : s.Keeps s.enterInTrain :=
  s.keeps_session (fun sound => sound.goOver work (by constructor <;> simp)
    (by constructor <;> simp [SessionCtl.stopTimers, State.standstillTimer, State.timer]) rfl rfl rfl sound.record) id rfl

theorem State.enterIdle_keeps {s : State} (work : s.session.state.atWork) : s.Keeps s.enterIdle :=
  s.keeps_session (fun sound => sound.goOver work (by constructor <;> simp)
    (by constructor <;> simp [SessionCtl.stopTimers, State.idleTimer, State.timer]) rfl rfl rfl sound.record) id rfl

theorem State.startClose_keeps {s : State} (c : Closure) (work : s.session.state.atWork) : s.Keeps (s.startClose c) :=
  s.keeps_session (fun sound => sound.goOver work (by constructor <;> simp)
    (by constructor <;> simp [SessionCtl.stopTimers]) rfl rfl rfl sound.record) id rfl

/-- CLEARING is entered (R28). -/
theorem State.clearing_keeps {s : State} (work : s.session.state.atWork) :
    s.Keeps { s with session := { s.session.stopTimers with state := .clearing, clear := s.clearTimer } } :=
  s.keeps_session (fun sound => sound.goOver work (by constructor <;> simp)
    (by constructor <;> simp [SessionCtl.stopTimers, State.clearTimer, State.timer]) rfl rfl rfl sound.record) id rfl

theorem State.enterStopped_keeps {s : State} (work : s.session.state.atWork) : s.Keeps s.enterStopped :=
  have stopped : s.Keeps { s with session := { s.session.stopTimers with state := .stopped, abandon := s.abandonTimer } } :=
    s.keeps_session (fun sound => sound.goOver work (by constructor <;> simp)
      (by constructor <;> simp [SessionCtl.stopTimers, State.abandonTimer, State.timer]) rfl rfl rfl sound.record) id rfl
  (stopped.trans (State.flagStopped_calm _).keeps).trans (State.raise_calm ..).keeps

/-! ## Applying a crossing (R27) -/

theorem State.fixEntry_keeps {s : State} (x : Crossing) (first : s.session.entryHead = none) : s.Keeps (s.fixEntry x) where
  session := .of_alike (c := (s.fixEntry x).session) ⟨rfl, rfl, rfl, rfl, rfl, rfl, rfl, rfl, rfl, rfl, rfl⟩
  bounded b := .of_parts b.headA b.headB b.held b.rings b.camera (.of_state (s := s) b)
  axles sound := by
    obtain ⟨a, b, -⟩ := sound.fresh first
    have count : (s.head x.head).count = 0 := by
      cases x.head
      · exact a
      · exact b
    refine ⟨sound.ordinals, sound.size, ?_, fun none => nomatch none⟩
    exact (Nat.le_of_eq count).trans (Nat.zero_le _)
  reports := .of_eq rfl
  offsets := .of_eq rfl rfl

theorem State.noteReversal_keeps (s : State) (x : Crossing) : s.Keeps (s.noteReversal x) := by
  unfold State.noteReversal
  split
  · exact .refl s
  · exact (s.keeps_alike (c := { s.session with reversalRaised := true })
      ⟨rfl, rfl, rfl, rfl, rfl, rfl, rfl, rfl, rfl, rfl, rfl⟩ rfl rfl).trans (State.raise_calm ..).keeps

/-- What a crossing makes of the state before its count changes: the first fixes the entry, one against notes T2. -/
def State.readCrossing (s : State) (x : Crossing) : State :=
  let fixed := if s.session.entryHead.isNone then s.fixEntry x else s
  if s.isWith x then fixed else fixed.noteReversal x

/-- What a crossing makes of the state after its count changed. -/
def State.finishCrossing (s : State) (x : Crossing) (withSession : Bool) : State :=
  ({ (if withSession && decide (s.session.entryHead ≠ some x.head) then s.requestExitPulse else s) with
    session.record.lastCrossing := some x.time } : State).enterInTrain

theorem State.applyCrossing_eq (s : State) (x : Crossing) :
    s.applyCrossing x = ((s.readCrossing x).countCrossing x (s.isWith x)).finishCrossing x (s.isWith x) := rfl

theorem State.readCrossing_keeps (s : State) (x : Crossing) : s.Keeps (s.readCrossing x) := by
  have fixed : s.Keeps (if s.session.entryHead.isNone then s.fixEntry x else s) := by
    split
    · next none => exact State.fixEntry_keeps x (Option.isNone_iff_eq_none.1 none)
    · exact .refl s
  unfold State.readCrossing
  dsimp only
  split
  · exact fixed
  · exact fixed.trans (State.noteReversal_keeps ..)

theorem State.readCrossing_session (s : State) (x : Crossing) :
    (s.readCrossing x).session.entryHead ≠ none ∧ (s.readCrossing x).session.state = s.session.state := by
  have fixed : (if s.session.entryHead.isNone then s.fixEntry x else s).session.entryHead ≠ none ∧
      (if s.session.entryHead.isNone then s.fixEntry x else s).session.state = s.session.state := by
    split
    · exact ⟨nofun, rfl⟩
    · next some => exact ⟨by simpa using some, rfl⟩
  unfold State.readCrossing
  dsimp only
  split
  · exact fixed
  · rw [State.noteReversal_session]
    exact fixed

theorem State.finishCrossing_keeps {s : State} (x : Crossing) (withSession : Bool) (work : s.session.state.atWork) :
    s.Keeps (s.finishCrossing x withSession) := by
  have noted (u : State) : u.Keeps { u with session.record.lastCrossing := some x.time } :=
    u.keeps_alike ⟨rfl, rfl, rfl, rfl, rfl, rfl, rfl, rfl, rfl, rfl, rfl⟩ rfl rfl
  unfold State.finishCrossing
  split
  · have pulsed : s.Calm s.requestExitPulse := s.calm_with ..
    exact (pulsed.keeps.trans (noted _)).trans (State.enterInTrain_keeps work)
  · exact (noted s).trans (State.enterInTrain_keeps work)

theorem State.finishCrossing_state (s : State) (x : Crossing) (withSession : Bool) :
    (s.finishCrossing x withSession).session.state = .inTrain := rfl

theorem State.applyCrossing_keeps {s : State} (x : Crossing) (work : s.session.state.atWork) : s.Keeps (s.applyCrossing x) := by
  obtain ⟨entered, state⟩ := s.readCrossing_session x
  rw [State.applyCrossing_eq]
  refine ((s.readCrossing_keeps x).trans (State.countCrossing_keeps _ x _ entered)).trans
    (State.finishCrossing_keeps x _ ?_)
  rwa [(State.countCrossing_frame ..).2.1, state]

theorem State.applyCrossing_state (s : State) (x : Crossing) : (s.applyCrossing x).session.state = .inTrain := by
  rw [State.applyCrossing_eq, State.finishCrossing_state]

theorem SessionState.atWork_inTrain : SessionState.inTrain.atWork := by constructor <;> simp

theorem State.applyAll_keeps (l : List Crossing) {s : State} (work : s.session.state.atWork) : s.Keeps (s.applyAll l) := by
  induction l generalizing s with
  | nil => exact .refl s
  | cons x l ih =>
    refine (State.applyCrossing_keeps x work).trans (ih ?_)
    rw [State.applyCrossing_state]
    exact SessionState.atWork_inTrain

theorem State.holdCrossing_keeps (s : State) (x : Crossing) : s.Keeps (s.holdCrossing x) := by
  unfold State.holdCrossing
  split
  · next room =>
    refine s.keeps_session (fun sound => sound.of_alike ⟨rfl, rfl, rfl, rfl, rfl, rfl, rfl, rfl, rfl, rfl, rfl⟩)
      (fun _ => ?_) rfl
    simpa using room
  · exact (s.keeps_alike (c := { s.session with heldDiscarded := true })
      ⟨rfl, rfl, rfl, rfl, rfl, rfl, rfl, rfl, rfl, rfl, rfl⟩ rfl rfl).trans (State.headFault_keeps ..)

/-! ## Opening a session (R23) -/

theorem State.KeepsStore.setSession {s u : State} (first : s.KeepsStore u) {c : SessionCtl} (held : c.held = u.session.held)
    (entry : c.entryHead = u.session.entryHead) : s.KeepsStore { u with session := c } where
  bounded before :=
    have b := first.bounded before
    .of_parts b.headA b.headB (held ▸ b.held) b.rings b.camera (.of_state (s := u) b)
  axles before := .of_eq (s := u) rfl rfl entry (fun _ => rfl) (first.axles before)
  reports before := .of_eq (s := u) rfl (first.reports before)
  offsets before := .of_eq (s := u) rfl rfl (first.offsets before)

/-- A state in which no crossing was applied, with an empty Axle Table. -/
theorem State.AxleTableSound.of_empty {s : State} (records : s.axles.records = []) (highWater : s.axles.highWater = 0)
    (entry : s.session.entryHead = none) (a : s.heads.a.count = 0) (b : s.heads.b.count = 0) : s.AxleTableSound := by
  refine ⟨by simp [records], by simp [records, highWater], ?_, fun _ => ⟨a, b, highWater⟩⟩
  simp [State.entryCount, entry]

/-- The part of an opening that concerns the stores. -/
theorem State.openSession_store (s : State) (st : SessionState) (noApproach : Bool) :
    s.KeepsStore (s.openSession st noApproach) where
  bounded b := by
    refine ((State.emptyBlocks_keeps _).trans (State.openEndsTransaction_calm _).keeps).bounded ?_
    exact .of_parts b.headA b.headB b.held b.rings b.camera { StationPort.Bounded.of_state b with }
  axles _ := by
    obtain ⟨session, heads, axles, -⟩ := s.openSession_parts st noApproach
    exact .of_empty (by rw [axles]) (by rw [axles]) (by rw [session]) (by rw [heads]) (by rw [heads])
  reports := .of_eq (State.openSession_frame s st noApproach).2.2.2.1
  offsets sound := by
    refine ((State.emptyBlocks_keeps _).trans (State.openEndsTransaction_calm _).keeps).offsets ?_
    exact .of_eq (s := s) rfl rfl sound

/-- A session opens in ARMED or IN_TRAIN, after a change that leaves the part awake. -/
theorem State.KeepsStore.openSession {s u : State} (first : s.KeepsStore u) (awake : s.SessionSound → u.Awake)
    {st : SessionState} (opening : st = .armed ∨ st = .inTrain) (noApproach : Bool) :
    s.Keeps (u.openSession st noApproach) := by
  refine ⟨first.trans (u.openSession_store st noApproach), fun sound => ?_⟩
  obtain ⟨session, -, -, -⟩ := u.openSession_parts st noApproach
  have before := awake sound
  have site : (u.openSession st noApproach).site = u.site := by simp [State.site]
  refine State.Awake.sound ⟨?_, site ▸ before.site, ?_⟩ ?_ ?_ ?_
  · rw [session]; exact before.power
  · rw [session]; exact before.settle
  · rw [session]
    rcases opening with rfl | rfl <;> constructor <;> simp
  · rw [session]
    rcases opening with rfl | rfl <;> constructor <;>
      simp [SessionCtl.stopTimers, State.armTimer, State.standstillTimer, State.timer]
  · rw [session]

theorem State.openSession_keeps {s : State} (work : s.session.state.atWork) {st : SessionState}
    (opening : st = .armed ∨ st = .inTrain) (noApproach : Bool) : s.Keeps (s.openSession st noApproach) :=
  (State.Keeps.refl s).toKeepsStore.openSession (fun sound => sound.awake work) opening noApproach

theorem State.openSession_state (s : State) (st : SessionState) (noApproach : Bool) :
    (s.openSession st noApproach).session.state = st := by
  rw [(s.openSession_parts st noApproach).1]

/-! ## Standby and wake (R38, R39) -/

theorem HeadState.sleep_alike (hs : HeadState) : hs.Alike hs.sleep := ⟨rfl, id⟩

theorem HeadState.wake_alike (hs : HeadState) : hs.Alike hs.wake := by
  unfold HeadState.wake
  split
  · split
    · have discarded (resync : Bool) : hs.Alike { hs with passage := none, resync := resync } := ⟨rfl, id⟩
      exact (discarded _).trans (HeadState.settleResync_alike _)
    · exact .refl hs
  · exact .refl hs

theorem State.enterStandby_keeps {s : State} (work : s.session.state.atWork) : s.Keeps s.enterStandby := by
  have asleep (u : State) (site : u.SessionSound → u.site ≠ none) :
      u.Keeps { u with session := { u.session.stopTimers with
        state := .standby, power := .standby, settle := none, settleState := .waiting } } :=
    u.keeps_session (fun sound => by
      have sited := site sound
      constructor <;> simp [SessionCtl.stopTimers]
      · exact sited
      · exact sound.record) id rfl
  exact (((asleep s fun sound => (sound.awake work).site).trans
    (State.keeps_heads _ (heads := ⟨s.heads.a.sleep, s.heads.b.sleep⟩) s.heads.a.sleep_alike s.heads.b.sleep_alike)).trans (State.emptyBlocks_keeps _)).trans
    (State.sendDown_calm ..).keeps

theorem State.wake_store (s : State) (cause : WakeCause) (stamp : Time) : s.KeepsStore (s.wake cause stamp) where
  bounded b := (State.emptyBlocks_keeps _).bounded (.of_parts (s.heads.a.wake_alike.queues b.headA)
    (s.heads.b.wake_alike.queues b.headB) b.held (fun i => by simp) b.camera (.of_state (s := s) b))
  axles sound := (State.emptyBlocks_keeps _).axles (.of_eq (s := s) rfl rfl rfl (fun h => by
    cases h
    · exact s.heads.a.wake_alike.count
    · exact s.heads.b.wake_alike.count) sound)
  reports sound := (State.emptyBlocks_keeps _).reports (.of_eq (s := s) rfl sound)
  offsets sound := (State.emptyBlocks_keeps _).offsets (.of_eq (s := s) rfl rfl sound)

theorem State.wake_awake {s : State} (cause : WakeCause) (stamp : Time) (asleep : s.session.state = .standby)
    (sound : s.SessionSound) : (s.wake cause stamp).Awake where
  power := by simp [State.wake, State.emptyBlocks]
  site none := by
    have := sound.ready.2 none
    simp [asleep] at this
  settle := by simp [State.wake, State.emptyBlocks, State.settleTimer, State.timer]

theorem State.wakeOpens_keeps {s : State} (cause : WakeCause) (stamp : Time) (asleep : s.session.state = .standby)
    {st : SessionState} (opening : st = .armed ∨ st = .inTrain) (noApproach : Bool) :
    s.Keeps ((s.wake cause stamp).openSession st noApproach) :=
  (s.wake_store cause stamp).openSession (State.wake_awake cause stamp asleep) opening noApproach

theorem State.wakeIdles_keeps {s : State} (cause : WakeCause) (stamp : Time) (asleep : s.session.state = .standby) :
    s.Keeps (s.wake cause stamp).enterIdle := by
  refine ⟨(s.wake_store cause stamp).setSession rfl rfl, fun sound => ?_⟩
  have awake := State.wake_awake cause stamp asleep sound
  refine State.Awake.sound ⟨awake.power, awake.site, awake.settle⟩ ?_ ?_ sound.record
  · constructor <;> simp [State.enterIdle]
  · constructor <;> simp [State.enterIdle, SessionCtl.stopTimers, State.idleTimer, State.timer]

/-! ## Events taken by state -/

theorem State.restartIdle_keeps {s : State} (idle : s.session.state = .idle) : s.Keeps { s with session.idle := s.idleTimer } :=
  s.keeps_session (fun sound => by
    obtain ⟨power, ready, arm, standstill, clear, abandon, -, settle, record⟩ := sound
    exact ⟨power, ready, arm, standstill, clear, abandon, iff_of_true rfl idle, settle, record⟩) id rfl

theorem State.restartStandstill_keeps {s : State} (inTrain : s.session.state = .inTrain) :
    s.Keeps { s with session.standstill := s.standstillTimer } :=
  s.keeps_session (fun sound => by
    obtain ⟨power, ready, arm, -, clear, abandon, idle, settle, record⟩ := sound
    exact ⟨power, ready, arm, iff_of_true rfl inTrain, clear, abandon, idle, settle, record⟩) id rfl

theorem State.takeCoilEdge_keeps (s : State) (t : Time) : s.Keeps (s.takeCoilEdge t) := by
  unfold State.takeCoilEdge
  cases state : s.session.state with
  | notReady | armed | closing => exact .refl s
  | standby => exact State.wakeOpens_keeps _ _ state (.inr rfl) _
  | idle => exact State.restartIdle_keeps state
  | inTrain => exact State.restartStandstill_keeps state
  | stopped | clearing => exact State.enterInTrain_keeps (by rw [state]; constructor <;> simp)

theorem State.takeCrossing_keeps (s : State) (x : Crossing) : s.Keeps (s.takeCrossing x) := by
  have applied (u : State) (noApproach : Bool) :
      (u.openSession .inTrain noApproach).Keeps ((u.openSession .inTrain noApproach).applyCrossing x) :=
    State.applyCrossing_keeps x (by rw [State.openSession_state]; exact SessionState.atWork_inTrain)
  unfold State.takeCrossing
  split
  · exact .refl s
  · cases state : s.session.state with
    | notReady => exact .refl s
    | standby => exact (State.wakeOpens_keeps _ _ state (.inr rfl) _).trans (applied ..)
    | idle => exact (State.openSession_keeps (by rw [state]; constructor <;> simp) (.inr rfl) _).trans (applied ..)
    | armed | inTrain | stopped | clearing => exact State.applyCrossing_keeps x (by rw [state]; constructor <;> simp)
    | closing => exact s.holdCrossing_keeps x

theorem State.takeApproach_keeps (s : State) (i : Approach) (t : Time) : s.Keeps (s.takeApproach i t) := by
  unfold State.takeApproach
  cases state : s.session.state with
  | notReady | armed | inTrain | stopped | clearing => exact .refl s
  | standby => exact State.wakeOpens_keeps _ _ state (.inl rfl) _
  | idle => exact State.openSession_keeps (by rw [state]; constructor <;> simp) (.inl rfl) _
  | closing => exact s.keeps_alike ⟨rfl, rfl, rfl, rfl, rfl, rfl, rfl, rfl, rfl, rfl, rfl⟩ rfl rfl

theorem State.setApproach_keeps (s : State) (i : Approach) (a : ApproachInput) : s.Keeps (s.setApproach i a) := by
  cases i <;> exact s.keeps_alike ⟨rfl, rfl, rfl, rfl, rfl, rfl, rfl, rfl, rfl, rfl, rfl⟩ rfl rfl

theorem State.qualify_keeps (s : State) (i : Approach) (t : Time) : s.Keeps (s.qualify i t) := by
  unfold State.qualify
  dsimp only
  split
  · exact (s.setApproach_keeps i _).trans (State.takeApproach_keeps ..)
  · exact s.setApproach_keeps i _

/-! ## Nodes coming and going (R41, R64) -/

theorem State.thermalOnline_keeps (s : State) : s.Keeps s.thermalOnline := by
  unfold State.thermalOnline
  split
  · exact .refl s
  · split
    · refine s.keeps_session (fun sound => ?_) id rfl
      obtain ⟨power, ready, arm, standstill, clear, abandon, idle, -, record⟩ := sound
      exact ⟨power, ready, arm, standstill, clear, abandon, idle, iff_of_true rfl rfl, record⟩
    · exact s.keeps_alike ⟨rfl, rfl, rfl, rfl, rfl, rfl, rfl, rfl, rfl, rfl, rfl⟩ rfl rfl

theorem State.becomeOnline_keeps (s : State) (k : NodeAddr) (e : NodeEntry) : s.Keeps (s.becomeOnline k e) := by
  have online := ((s.updNode_calm k fun _ => { e with status := .online }).trans (State.haltIfAsleep_calm _ k)).keeps
  unfold State.becomeOnline
  dsimp only
  split
  · exact online.trans (State.thermalOnline_keeps _)
  · exact online

theorem State.frameFrom_keeps (s : State) (k : NodeAddr) (isIdent : Bool) : s.Keeps (s.frameFrom k isIdent) := by
  unfold State.frameFrom
  dsimp only
  split
  · exact s.becomeOnline_keeps ..
  · split
    · exact .refl s
    · exact (s.updNode_calm ..).keeps
  all_goals exact .refl s

theorem State.resolveIdent_keeps (s : State) (k : NodeAddr) (t : NodeType) (roles : List Role) :
    s.Keeps (s.resolveIdent k t roles) := by
  have idle (n : NodeLink) : s.Calm { s with node := n } := s.calm_with ..
  exact (idle _).keeps.trans (State.becomeOnline_keeps ..)

end Sys2Proof.Machine

/-!
PROOFS. The five laws of a sound state, fourth part: the tables, the Report Store, the close operation, the commands of
the site computer, site reset and power-on.
-/

namespace Sys2Proof.Machine

/-! ## The table store (R170, R172) -/

/-- A change of the tables that leaves the active Site Constants and the active Channel Table. -/
theorem State.keeps_tables (s : State) {tables : TableStore} (site : tables.active.site = s.tables.active.site)
    (channels : tables.active.channels = s.tables.active.channels) : s.Keeps { s with tables := tables } where
  session := .of_eq rfl site
  bounded b := .of_parts b.headA b.headB b.held b.rings b.camera (.of_state (s := s) b)
  axles := .of_eq rfl rfl rfl fun _ => rfl
  reports := .of_eq rfl
  offsets := .of_eq rfl channels

theorem State.writePending_keeps (s : State) (l : TableLoad) : s.Keeps (s.writePending l) := by
  cases l <;> exact s.keeps_tables rfl rfl

/-- The first activation of Site Constants takes NOT_READY to IDLE; a later one leaves the state (R21). -/
theorem State.activateSite_keeps (s : State) (c : SiteConstants) : s.Keeps (s.activateSite c) := by
  unfold State.activateSite
  dsimp only
  split
  · next notReady =>
    refine ⟨⟨fun b => .of_parts b.headA b.headB b.held b.rings b.camera (.of_state (s := s) b),
      .of_eq rfl rfl rfl fun _ => rfl, .of_eq rfl, .of_eq rfl rfl⟩, fun sound => ?_⟩
    have awake : s.session.power ≠ .standby := fun asleep => by
      have := sound.power.1 asleep
      simp_all
    refine State.Awake.sound ⟨awake, nofun, sound.settle⟩ (by constructor <;> simp [State.enterIdle]) ?_ sound.record
    constructor <;> simp [State.enterIdle, SessionCtl.stopTimers, State.idleTimer, State.timer]
  · next ready =>
    refine ⟨⟨fun b => .of_parts b.headA b.headB b.held b.rings b.camera (.of_state (s := s) b),
      .of_eq rfl rfl rfl fun _ => rfl, .of_eq rfl, .of_eq rfl rfl⟩, fun sound => ?_⟩
    exact { sound with ready := iff_of_false ready nofun }

theorem freshZero_eq_some_iff (e : Entry Channel) (z : ZeroTrack) :
    freshZero e = some z ↔ ∃ c, e = .valid c ∧ c.kind = .load ∧ z = { offset := c.offset } := by
  cases e with
  | valid c =>
    simp only [freshZero]
    split <;> simp_all [eq_comm]
  | _ => simp [freshZero]

/-- The valid entry of an index. -/
theorem State.channel?_eq_some_iff (s : State) (i : ChanIdx) (e : Channel) :
    s.channel? i = some e ↔ s.tables.active.channels[i] = .valid e := by
  unfold State.channel?
  split <;> simp_all

/-- Activated entries have the tracking states that `freshZero` gives them (R99). -/
theorem State.zeroSound_of_fresh {s : State} {zero : Vector (Option ZeroTrack) 24} {i : ChanIdx}
    (fresh : zero[i] = freshZero s.tables.active.channels[i]) :
    ((zero[i]).isSome = true ↔ ∃ e, s.channel? i = some e ∧ e.kind = .load) ∧
    (∀ z e, zero[i] = some z → s.channel? i = some e → e.offset - 512 ≤ z.offset ∧ z.offset ≤ e.offset + 512) ∧
    ∀ z, zero[i] = some z → z.count ≤ 256 := by
  simp only [fresh, Option.isSome_iff_exists, freshZero_eq_some_iff, State.channel?_eq_some_iff]
  refine ⟨⟨?_, ?_⟩, ?_, ?_⟩
  · rintro ⟨z, c, valid, load, -⟩
    exact ⟨c, valid, load⟩
  · rintro ⟨c, valid, load⟩
    exact ⟨_, c, valid, load, rfl⟩
  · rintro z e ⟨c, valid, -, rfl⟩ valid'
    obtain rfl : c = e := Entry.valid.inj (valid.symm.trans valid')
    dsimp only
    omega
  · rintro z ⟨c, -, -, rfl⟩
    exact Nat.zero_le _

theorem State.activateChannel_keeps (s : State) (i : ChanIdx) (e : Entry Channel) : s.Keeps (s.activateChannel i e) where
  session := .of_eq rfl rfl
  bounded b := by
    refine .of_parts b.headA b.headB b.held (fun j => ?_) b.camera { StationPort.Bounded.of_state b with }
    simp only [State.activateChannel, Vec.getElem_set_fin]
    split
    · exact Nat.zero_le _
    · exact b.rings j
  axles := .of_eq rfl rfl rfl fun _ => rfl
  reports := .of_eq rfl
  offsets sound := by
    have fresh : (s.activateChannel i e).load.zero[i] = freshZero (s.activateChannel i e).tables.active.channels[i] := by
      simp [State.activateChannel]
    have zero {j : ChanIdx} (other : i ≠ j) : (s.activateChannel i e).load.zero[j] = s.load.zero[j] := by
      simp only [State.activateChannel, Vec.getElem_set_fin, if_neg other]
    have channel {j : ChanIdx} (other : i ≠ j) : (s.activateChannel i e).channel? j = s.channel? j := by
      simp only [State.channel?, State.activateChannel, Vec.getElem_set_fin, if_neg other]
    obtain ⟨holder, span, block⟩ := State.zeroSound_of_fresh fresh
    refine ⟨fun j => ?_, fun j => ?_, fun j => ?_⟩ <;> rcases eq_or_ne i j with rfl | other
    · exact holder
    · rw [zero other, channel other]; exact sound.holder j
    · exact span
    · rw [zero other, channel other]; exact sound.span j
    · exact block
    · rw [zero other]; exact sound.block j

theorem State.writeChannels_keeps (s : State) (i : Nat) (l : List (Entry Channel)) : s.Keeps (s.writeChannels i l) := by
  induction l generalizing s i with
  | nil => exact .refl s
  | cons e l ih =>
    unfold State.writeChannels
    split
    · next within =>
      have removed (u : State) (v : Vector (Option (Entry Channel)) 24) :
          u.Keeps { u with tables.pending.channels := v } := u.keeps_tables rfl rfl
      exact ((s.activateChannel_keeps ⟨i, within⟩ e).trans (removed _ _)).trans (ih _ (i + 1))
    · exact .refl s

theorem State.writeActive_keeps (s : State) (l : TableLoad) : s.Keeps (s.writeActive l) := by
  cases l with
  | site c => exact (s.activateSite_keeps c).trans (State.keeps_tables _ rfl rfl)
  | channels first l => exact s.writeChannels_keeps first l
  | bands b => exact s.keeps_tables rfl rfl
  | patterns first l => exact s.keeps_tables rfl rfl
  | thresholds first l => exact s.keeps_tables rfl rfl

theorem State.applyChannels_keeps (s : State) (l : List ChanIdx) : s.Keeps (s.applyChannels l) := by
  induction l generalizing s with
  | nil => exact .refl s
  | cons i l ih =>
    unfold State.applyChannels
    split
    · exact (s.activateChannel_keeps i _).trans (ih _)
    · exact ih s

/-- Site Constants pending is activated first. -/
def State.applySite (s : State) : State :=
  match s.tables.pending.site with
  | some c => s.activateSite c
  | none => s

theorem State.applySite_keeps (s : State) : s.Keeps s.applySite := by
  unfold State.applySite
  split
  · exact s.activateSite_keeps _
  · exact .refl s

theorem State.applyPending_keeps (s : State) : s.Keeps s.applyPending :=
  (s.applySite_keeps.trans (State.applyChannels_keeps _ allChannels)).trans (State.keeps_tables _ rfl rfl)

/-! ## The Report Store (R152 to R156, R161) -/

theorem ReportUnit.heldCount_eq (r : ReportUnit) :
    r.heldCount = allSlots.countP fun i => decide ((r.slots[i]).state = .held) := List.countP_eq_length_filter.symm

/-- A slot written changes the number of HELD slots by that slot alone. -/
theorem ReportUnit.heldCount_set (r : ReportUnit) (i : Fin 4) (x : Slot) :
    ({ r with slots := r.slots.set i x } : ReportUnit).heldCount + (if (r.slots[i]).state = .held then 1 else 0) =
      r.heldCount + if x.state = .held then 1 else 0 := by
  simp only [ReportUnit.heldCount_eq, allSlots, List.countP_cons, List.countP_nil, Vec.getElem_set_fin, decide_eq_true_eq]
  match i with
  | 0 | 1 | 2 | 3 => simp; omega

theorem State.keeps_report (s : State) {report : ReportUnit}
    (sound : s.ReportsBalanced → State.ReportsBalanced { s with report := report }) :
    s.Keeps { s with report := report } where
  session := .of_eq rfl rfl
  bounded b := .of_parts b.headA b.headB b.held b.rings b.camera (.of_state (s := s) b)
  axles := .of_eq rfl rfl rfl fun _ => rfl
  reports := sound
  offsets := .of_eq rfl rfl

/-- The readout engine and the copy in progress do not belong to the balance. -/
theorem State.keeps_engine (s : State) (engine : Option Readout) : s.Keeps { s with report.engine := engine } :=
  s.keeps_report fun sound => ⟨sound.balance, sound.holds⟩

theorem State.holds_set {s : State} (sound : s.ReportsBalanced) {i : Fin 4} {x : Slot}
    (held : x.state = .held → x.report.isSome = true) (j : Fin 4) :
    ((s.report.slots.set i x)[j]).state = .held → ((s.report.slots.set i x)[j]).report.isSome = true := by
  rw [Vec.getElem_set_fin]
  split
  · exact held
  · exact sound.holds j

theorem State.beginCopy_keeps (s : State) : s.Keeps s.beginCopy := by
  unfold State.beginCopy
  split
  · exact .refl s
  · next i _ =>
    refine s.keeps_report fun sound => ⟨fun below => ?_, State.holds_set sound (sound.holds i)⟩
    have same := s.report.heldCount_set i { s.report.slots[i] with writing := true }
    exact (sound.balance below).trans (by rw [← Nat.add_right_cancel same]; rfl)

theorem State.release_keeps {s : State} {i : Fin 4} (held : (s.report.slots[i]).state = .held) : s.Keeps (s.release i) := by
  refine s.keeps_report fun sound => ⟨fun below => ?_, State.holds_set sound nofun⟩
  have fewer := s.report.heldCount_set i { s.report.slots[i] with state := .released }
  have balance := sound.balance below
  have below : s.report.closed < 65535 := below
  simp only [held, if_true, reduceCtorEq, if_false, Nat.add_zero] at fewer
  have counted : bump s.report.releases = s.report.releases + 1 := bump_of_lt (by omega)
  have heldAfter : (s.release i).report.heldCount + 1 = s.report.heldCount := fewer
  change s.report.closed = (s.release i).report.heldCount + bump s.report.releases + s.report.lost
  omega

/-- The Report Store with a new report in a slot and the reports lost counted anew. -/
def ReportUnit.put (r : ReportUnit) (i : Fin 4) (rep : Report) (lost : Nat) : ReportUnit :=
  { r with
    slots := r.slots.set i { state := .held, report := some rep, writing := false }
    order := (r.order.filter (· ≠ i)) ++ [i]
    closed := bump r.closed
    copy := none
    lost := lost }

theorem ReportUnit.heldCount_put (r : ReportUnit) (i : Fin 4) (rep : Report) (lost : Nat) :
    (r.put i rep lost).heldCount + (if (r.slots[i]).state = .held then 1 else 0) = r.heldCount + 1 :=
  r.heldCount_set i _

theorem State.put_keeps (s : State) (i : Fin 4) (rep : Report) {lost : Nat}
    (counted : s.ReportsBalanced → s.report.lost < 65535 →
      lost = s.report.lost + if (s.report.slots[i]).state = .held then 1 else 0) :
    s.Keeps { s with report := s.report.put i rep lost } := by
  refine s.keeps_report fun sound => ⟨fun below => ?_, State.holds_set sound fun _ => rfl⟩
  have below : bump s.report.closed < 65535 := below
  have more : bump s.report.closed = s.report.closed + 1 := bump_of_lt (by simp [bump] at below; omega)
  have balance := sound.balance (by omega)
  have held := s.report.heldCount_put i rep lost
  have counted := counted sound (by omega)
  change bump s.report.closed = (s.report.put i rep lost).heldCount + s.report.releases + lost
  omega

theorem State.putReport_calm {s u : State} {lost : Nat} (calm : State.Calm { s with report.lost := lost } u) (i : Fin 4)
    (rep : Report) : State.Calm { s with report := s.report.put i rep lost } (u.putReport i rep) := by
  have same := calm.report
  have report : (u.putReport i rep).report = s.report.put i rep lost := by
    simp only [State.putReport, same]
    rfl
  exact { calm with report := report }

/-- Where the slot held a report, that one is lost (R156); a HELD slot without a report is in no balanced store. -/
theorem State.install_keeps (s : State) (i : Fin 4) (rep : Report) : s.Keeps (s.install i rep) := by
  unfold State.install State.loseOld
  split
  · next old state _ =>
    refine (s.put_keeps i rep (lost := bump s.report.lost) fun _ below => ?_).trans
      (State.putReport_calm (State.raise_calm ..) i rep).keeps
    rw [bump_of_lt below, if_pos state]
  · next notHeld =>
    refine (s.put_keeps i rep (lost := s.report.lost) fun sound _ => ?_).trans
      (State.putReport_calm (.refl _) i rep).keeps
    rw [if_neg fun state => ?_, Nat.add_zero]
    obtain ⟨old, held⟩ := Option.isSome_iff_exists.1 (sound.holds i state)
    exact notHeld old state held

/-! ## The close operation (R33, R37) -/

theorem State.closeCounts_keeps (s : State) : s.Keeps s.closeCounts := by
  unfold State.closeCounts
  split
  · exact .refl s
  · exact (s.keeps_alike (c := { s.session with record.countMismatch := true })
      ⟨rfl, rfl, rfl, rfl, rfl, rfl, rfl, rfl, rfl, rfl, rfl⟩ rfl rfl).trans (State.raise_calm ..).keeps

theorem State.outlierRail_keeps (s : State) (rail : Rail) : s.Keeps (s.outlierRail rail) := by
  unfold State.outlierRail
  dsimp only
  split
  · exact s.keeps_alike ⟨rfl, rfl, rfl, rfl, rfl, rfl, rfl, rfl, rfl, rfl, rfl⟩ rfl rfl
  · exact (State.testOutliers_calm ..).keeps

theorem State.closeOutliers_keeps (s : State) : s.Keeps s.closeOutliers :=
  (s.outlierRail_keeps .r1).trans (State.outlierRail_keeps _ .r2)

theorem State.completeClose_keeps {s : State} (closing : s.session.state = .closing) : s.Keeps s.completeClose := by
  have work (u : State) (state : u.session.state = s.session.state) : u.session.state.atWork := by
    rw [state, closing]; constructor <;> simp
  have emptied : s.Keeps { s with session.held := [] } :=
    s.keeps_session (fun sound => sound.of_alike ⟨rfl, rfl, rfl, rfl, rfl, rfl, rfl, rfl, rfl, rfl, rfl⟩)
      (fun _ => Nat.zero_le _) rfl
  have opened (u : State) {st : SessionState} (opening : st = .armed ∨ st = .inTrain) (state : u.session.state.atWork)
      (noApproach : Bool) (l : List Crossing) : u.Keeps ((u.openSession st noApproach).applyAll l) := by
    refine (State.openSession_keeps state opening noApproach).trans (State.applyAll_keeps l ?_)
    rw [State.openSession_state]
    rcases opening with rfl | rfl <;> constructor <;> simp
  unfold State.completeClose
  dsimp only
  split
  · exact emptied.trans (State.enterIdle_keeps (work { s with session.held := [] } rfl))
  · exact emptied.trans (opened _ (.inl rfl) (work { s with session.held := [] } rfl) ..)
  · exact emptied.trans (opened _ (.inr rfl) (work { s with session.held := [] } rfl) ..)

/-! ## The readout engine (R158 to R160) -/

theorem State.placeReport_keeps {s : State} (e : Readout) (rep : Report) (room : s.port.reportQ.length < 8) :
    s.Keeps (s.placeReport e rep) := by
  have placed (f : OutFrame) : s.Calm { s with port.reportQ := s.port.reportQ ++ [f] } :=
    s.calm_port fun b => { b with reportQ := by simpa using room }
  unfold State.placeReport
  dsimp only
  split
  · exact ((placed _).keeps.trans (State.keeps_engine _ none)).trans (State.offerReply_calm ..).keeps
  · exact (placed _).keeps.trans (State.keeps_engine _ _)

theorem State.serveReadReport_keeps {s : State} (c : Command) (room : s.replyRoom = true) :
    s.Keeps (s.serveReadReport c) := by
  unfold State.serveReadReport
  split
  · exact (State.answer_calm c _ _ room).keeps
  · exact (State.answer_calm c _ _ room).keeps
  · exact s.keeps_engine _

theorem State.serveAbort_keeps {s : State} (c : Command) (room : s.replyRoom = true) : s.Keeps (s.serveAbort c) := by
  unfold State.serveAbort
  split
  · exact (State.answer_calm c _ _ room).keeps
  · have idle := s.keeps_engine none
    exact (idle.trans (State.placeReply_calm (s := { s with report.engine := none }) _ room).keeps).trans
      (State.offerReply_calm ..).keeps

theorem State.serveRelease_keeps {s : State} (c : Command) (room : s.replyRoom = true) : s.Keeps (s.serveRelease c) := by
  have answered (st : Status) : s.Keeps (s.answer c st []) := (State.answer_calm c st [] room).keeps
  unfold State.serveRelease
  split
  · dsimp only
    split
    · exact answered _
    · split
      · exact answered _
      · split
        · exact answered _
        · next held => exact (State.release_keeps held).trans (State.answer_calm (s := s.release _) c _ _ room).keeps
        · exact answered _
  · exact (State.answerRangeFree_calm c room).keeps

/-! ## The other commands -/

theorem State.room_of_port {s u : State} (port : u.port = s.port) (room : s.replyRoom = true) : u.replyRoom = true := by
  simpa only [State.replyRoom, port] using room

/-- Entries written to the active bank change the decimation counts of the port and nothing else of it (R168). -/
theorem State.writeChannels_port (s : State) (i : Nat) (l : List (Entry Channel)) :
    ∃ v, (s.writeChannels i l).port = { s.port with decimation := v } := by
  induction l generalizing s i with
  | nil => exact ⟨_, rfl⟩
  | cons e l ih =>
    unfold State.writeChannels
    split
    · exact ih _ (i + 1)
    · exact ⟨_, rfl⟩

theorem State.writeActive_port (s : State) (l : TableLoad) :
    ∃ v, (s.writeActive l).port = { s.port with decimation := v } := by
  cases l with
  | channels first l => exact s.writeChannels_port first l
  | site c =>
    have port : (s.activateSite c).port = s.port := by simp
    exact ⟨s.port.decimation, port⟩
  | _ => exact ⟨s.port.decimation, rfl⟩

theorem State.serveLoadTable_keeps {s : State} (c : Command) (room : s.replyRoom = true) : s.Keeps (s.serveLoadTable c) := by
  have roomAfter {u : State} (replyQ : u.port.replyQ = s.port.replyQ) (held : u.port.heldReplies = s.port.heldReplies) :
      u.replyRoom = true := by
    simpa only [State.replyRoom, replyQ, held] using room
  unfold State.serveLoadTable
  split
  · exact (State.answer_calm c _ _ room).keeps
  · exact (State.answer_calm c _ _ room).keeps
  · next l _ =>
    split
    · have port : (s.writePending l).port = s.port := by simp
      exact (s.writePending_keeps l).trans (State.answer_calm c _ _ (roomAfter (by rw [port]) (by rw [port]))).keeps
    · obtain ⟨decimation, port⟩ := s.writeActive_port l
      exact (s.writeActive_keeps l).trans (State.answer_calm c _ _ (roomAfter (by rw [port]) (by rw [port]))).keeps

theorem State.readEntries_calm (s : State) (id first n : Nat) (pending : Bool) :
    s.Calm (s.readEntries id first n pending).2 := by
  constructor <;> simp

theorem State.serveReadTable_keeps {s : State} (c : Command) (room : s.replyRoom = true) : s.Keeps (s.serveReadTable c) := by
  unfold State.serveReadTable
  dsimp only
  split
  · have read := s.readEntries_calm (u8 c.args 0) (u8 c.args 1) (u8 c.args 2) (decide (u8 c.args 3 = bankPending))
    exact (read.trans (State.answer_calm c _ _ (State.room_of_port (by simp) room))).keeps
  · exact (State.answerRangeFree_calm c room).keeps

theorem State.serveReadAxle_keeps {s : State} (c : Command) (room : s.replyRoom = true) : s.Keeps (s.serveReadAxle c) := by
  unfold State.serveReadAxle
  dsimp only
  split
  · exact (State.answerRangeFree_calm c room).keeps
  · split <;> exact (State.answer_calm c _ _ room).keeps

theorem State.serveClearAlert_keeps {s : State} (c : Command) (room : s.replyRoom = true) : s.Keeps (s.serveClearAlert c) := by
  have cleared (entries : Vector AlertEntry 21) : s.Calm { s with alert.entries := entries } := s.calm_with ..
  unfold State.serveClearAlert
  split
  · exact ((cleared _).trans (State.answer_calm c _ _ (State.room_of_port (u := s.clearAll) (by simp) room))).keeps
  · split
    · next k _ => exact ((cleared _).trans (State.answer_calm (s := s.clearKind k) c _ _ room)).keeps
    · exact (State.answerRangeFree_calm c room).keeps

theorem State.serveSetAlertEnable_keeps {s : State} (c : Command) (room : s.replyRoom = true) :
    s.Keeps (s.serveSetAlertEnable c) := by
  have written (entries : Vector AlertEntry 21) : s.Calm { s with alert.entries := entries } := s.calm_with ..
  unfold State.serveSetAlertEnable
  dsimp only
  split
  · exact (State.answerRangeFree_calm c room).keeps
  · exact ((written _).trans (State.answer_calm c _ _ (State.room_of_port (u := s.setEnables _) (by simp) room))).keeps

theorem State.serveStandby_keeps {s : State} (c : Command) (room : s.replyRoom = true) : s.Keeps (s.serveStandby c) := by
  have port : s.enterStandby.port = s.port := by simp
  unfold State.serveStandby
  cases state : s.session.state with
  | idle =>
    refine (State.enterStandby_keeps (by rw [state]; constructor <;> simp)).trans 
      (State.answer_calm c _ _ (State.room_of_port port room)).keeps
  | _ => exact (State.answer_calm c _ _ room).keeps

theorem State.serveWake_keeps {s : State} (c : Command) (room : s.replyRoom = true) : s.Keeps (s.serveWake c) := by
  have port : (s.wake .stationWake s.clock).enterIdle.port = s.port := by simp
  unfold State.serveWake
  split
  · next asleep =>
    refine (State.wakeIdles_keeps _ _ asleep).trans 
      (State.answer_calm c _ _ (State.room_of_port port room)).keeps
  · exact (State.answer_calm c _ _ room).keeps

theorem State.serveCloseTrain_keeps {s : State} (c : Command) (room : s.replyRoom = true) : s.Keeps (s.serveCloseTrain c) := by
  unfold State.serveCloseTrain
  split
  · next open_ =>
    have work : s.session.state.atWork := by rcases open_ with h | h <;> rw [h] <;> constructor <;> simp
    exact (State.startClose_keeps _ work).trans (State.answer_calm (s := s.startClose .forced) c _ _ room).keeps
  · exact (State.answer_calm c _ _ room).keeps

theorem State.serveNodeTransaction_keeps {s : State} (c : Command) (room : s.replyRoom = true) :
    s.Keeps (s.serveNodeTransaction c) := by
  unfold State.serveNodeTransaction
  split
  · exact (State.answer_calm c _ _ room).keeps
  · exact (State.answer_calm c _ _ room).keeps
  · exact (State.answer_calm c _ _ room).keeps
  · exact (State.calm_with ..).keeps

/-! ## Site reset and power-on (R19, R42, R176) -/

theorem HeadState.reset_bounded (hs : HeadState) : hs.reset.QueuesBounded := ⟨Nat.zero_le _, Nat.zero_le _⟩

theorem HeadState.powerOn_bounded (hs : HeadState) : hs.powerOn.QueuesBounded := ⟨Nat.zero_le _, Nat.zero_le _⟩

/-- The Report Store of a part that has closed no train. -/
theorem State.ReportsBalanced.of_empty {s : State} (report : s.report = {}) : s.ReportsBalanced := by
  constructor
  · intro _
    rw [report]
    decide
  · intro i held
    have empty : (s.report.slots[i]).state = .empty := by simp [report]
    rw [empty] at held
    cases held

theorem State.resetState_keeps (s : State) : s.Keeps s.resetState := by
  have blocks : s.KeepsStore s.resetBlocks := by
    refine ⟨fun b => ?_, fun _ => .of_empty rfl rfl rfl rfl rfl, fun _ => .of_empty rfl, fun _ => ?_⟩
    · exact .of_parts (HeadState.reset_bounded _) (HeadState.reset_bounded _) (Nat.zero_le _) (fun i => by simp [State.resetBlocks])
        (Nat.zero_le _) ⟨b.commands, Nat.zero_le _, Nat.zero_le _, Nat.zero_le _, Nat.zero_le _, Nat.zero_le _⟩
    · have fresh (i : ChanIdx) : s.resetBlocks.load.zero[i] = freshZero s.resetBlocks.tables.active.channels[i] :=
        Vec.map_get ..
      exact ⟨fun i => (State.zeroSound_of_fresh (fresh i)).1, fun i => (State.zeroSound_of_fresh (fresh i)).2.1,
        fun i => (State.zeroSound_of_fresh (fresh i)).2.2⟩
  unfold State.resetState
  split
  · next idle =>
    refine ⟨blocks.setSession rfl rfl, fun sound => ?_⟩
    obtain ⟨sited, awake⟩ : s.site.isSome = true ∧ s.session.state ≠ .standby := by
      simp only [State.resetBlocks, SessionCtl.siteReset] at idle
      split at idle
      · cases idle
      · next sited =>
        split at idle
        · cases idle
        · next awake => exact ⟨by simpa [Option.isSome_iff_ne_none] using sited, awake⟩
    refine State.Awake.sound ⟨fun asleep => awake (sound.power.1 asleep), ?_, sound.settle⟩ ?_ ?_ rfl
    · exact Option.isSome_iff_ne_none.1 sited
    · constructor <;> simp [State.enterIdle]
    · constructor <;> simp [State.enterIdle, SessionCtl.stopTimers, State.idleTimer, State.timer]
  · next notIdle =>
    refine ⟨blocks, fun sound => ?_⟩
    have state : s.resetBlocks.session.state =
        if !s.site.isSome then .notReady else if s.session.state = .standby then .standby else .idle := rfl
    have power : s.resetBlocks.session.power = s.session.power := rfl
    have site : s.resetBlocks.site = s.site := rfl
    have resting : (s.resetBlocks.session.state = .notReady ∧ s.site = none ∧ s.session.power ≠ .standby) ∨
        s.resetBlocks.session.state = .standby ∧ s.site ≠ none ∧ s.session.power = .standby := by
      by_cases none : s.site = none
      · refine .inl ⟨by simp [state, none], none, fun asleep => ?_⟩
        have := sound.ready.2 none
        rw [sound.power.1 asleep] at this
        cases this
      · by_cases asleep : s.session.state = .standby
        · exact .inr ⟨by simp [state, none, asleep], none, sound.power.2 asleep⟩
        · exact absurd (by simp [state, none, asleep]) notIdle
    have timers : s.resetBlocks.session.arm = none ∧ s.resetBlocks.session.standstill = none ∧
        s.resetBlocks.session.clear = none ∧ s.resetBlocks.session.abandon = none ∧ s.resetBlocks.session.idle = none :=
      ⟨rfl, rfl, rfl, rfl, rfl⟩
    obtain ⟨arm, standstill, clear, abandon, idle⟩ := timers
    refine ⟨?_, ?_, ?_, ?_, ?_, ?_, ?_, sound.settle, rfl⟩ <;>
      simp only [power, site, arm, standstill, clear, abandon, idle] <;>
      rcases resting with ⟨resting, site, power⟩ | ⟨resting, site, power⟩ <;> simp [resting, site, power]

theorem State.serveSiteReset_keeps (c : Command) (s : State) : s.Keeps (s.serveSiteReset c) :=
  s.resetState_keeps.trans
    (((State.replyAborted_calm ..).trans (State.replyReset_calm ..)).trans (State.offerReply_calm ..)).keeps

theorem State.powerOn_keeps (s : State) : s.Keeps s.powerOn := by
  refine ⟨⟨fun _ => ?_, fun _ => .of_empty rfl rfl rfl rfl rfl, fun _ => .of_empty rfl, fun _ => ?_⟩, fun _ => ?_⟩
  · exact .of_parts (HeadState.powerOn_bounded _) (HeadState.powerOn_bounded _) (Nat.zero_le _)
      (fun i => by simp [State.powerOn]) (Nat.zero_le _) (by constructor <;> exact Nat.zero_le _)
  · have fresh (i : ChanIdx) : s.powerOn.load.zero[i] = freshZero s.powerOn.tables.active.channels[i] := by
      simp [State.powerOn, freshZero]
    exact ⟨fun i => (State.zeroSound_of_fresh (fresh i)).1, fun i => (State.zeroSound_of_fresh (fresh i)).2.1,
      fun i => (State.zeroSound_of_fresh (fresh i)).2.2⟩
  · constructor <;> simp [State.powerOn, State.site]

/-! ## The outbound line (R166, R167) -/

theorem State.arbitrate_keeps (s : State) : s.Keeps s.arbitrate := by
  have shorter {p : StationPort} (bounded : s.port.Bounded → p.Bounded) : s.Keeps { s with port := p } :=
    (s.calm_port bounded).keeps
  have popped {l rest : List OutFrame} {f : OutFrame} {n : Nat} (front : l = f :: rest) (within : l.length ≤ n) :
      rest.length ≤ n := by
    rw [front] at within
    exact Nat.le_of_succ_le within
  unfold State.arbitrate
  split
  · next front => exact shorter fun b => { b with alertQ := popped front b.alertQ }
  · split
    · next front => exact shorter fun b => { b with replyQ := popped front b.replyQ }
    · split
      · next f l front =>
        exact (s.keeps_engine (s.report.engine.map (·.frameLeft f))).trans
          (State.calm_port { s with report.engine := s.report.engine.map (·.frameLeft f) }
            (port := { s.port with reportQ := l, line := some f }) fun b => { b with reportQ := popped front b.reportQ }).keeps
      · split
        · next front => exact shorter fun b => { b with resultQ := popped front b.resultQ }
        · split
          · next front => exact shorter fun b => { b with forwardQ := popped front b.forwardQ }
          · exact shorter fun b => { b with }

end Sys2Proof.Machine

/-!
PROOFS. The five laws of a sound state, last part: every command of the table keeps them, and so do the statements
SessionLawsKept, CapacitiesKept, AxleTableLawKept, ReportBalanceKept and TrackedOffsetsKept.
-/

namespace Sys2Proof.Machine

/-- The outcome is a next state with property `P`. -/
def Yields (P : State → Prop) : Host.Outcome State Fault Refusal → Prop
  | .next t => P t
  | .fault _ => False
  | .refused _ => False

/-! ## Heads and approach inputs -/

theorem execCoilPinTransition_keeps (dt : Time) (h : Head) (c : Coil) (lvl : Bool) (s : State) :
    Yields s.Keeps (execCoilPinTransition dt h c lvl s) :=
  (s.advance_keeps dt).trans (State.pinTransition_keeps ..)

theorem execCandidateCommit_keeps (dt : Time) (h : Head) (c : Coil) (s : State) :
    Yields s.Keeps (execCandidateCommit dt h c s) := by
  unfold execCandidateCommit
  split
  · exact (s.advance_keeps dt).trans (State.commitCandidate_keeps ..)
  · exact s.advance_keeps dt

theorem execCoilEdge_keeps (dt : Time) (h : Head) (c : Coil) (s : State) : Yields s.Keeps (execCoilEdge dt h c s) := by
  unfold execCoilEdge
  dsimp only
  split
  · exact s.advance_keeps dt
  · exact ((s.advance_keeps dt).trans (State.setHead_keeps _ (HeadState.setLine_alike _ (by exact id)))).trans
      (State.takeCoilEdge_keeps ..)

theorem execCrossing_keeps (dt : Time) (h : Head) (s : State) : Yields s.Keeps (execCrossing dt h s) := by
  unfold execCrossing
  dsimp only
  split
  · exact s.advance_keeps dt
  · exact ((s.advance_keeps dt).trans (State.setHead_keeps _ (by exact ⟨rfl, id⟩))).trans (State.takeCrossing_keeps ..)

theorem execApproachPinChange_keeps (dt : Time) (i : Approach) (asserted : Bool) (s : State) :
    Yields s.Keeps (execApproachPinChange dt i asserted s) := by
  unfold execApproachPinChange State.setApproachPin
  dsimp only
  split
  · exact s.advance_keeps dt
  · split
    · exact ((s.advance_keeps dt).trans (State.qualify_keeps ..)).trans (State.setApproach_keeps ..)
    · exact (s.advance_keeps dt).trans (State.setApproach_keeps ..)

theorem execApproachEdge_keeps (dt : Time) (i : Approach) (s : State) : Yields s.Keeps (execApproachEdge dt i s) := by
  unfold execApproachEdge
  split
  · exact (s.advance_keeps dt).trans (State.qualify_keeps ..)
  · exact s.advance_keeps dt

/-! ## Timers (R26, R28 to R30, R38, R41) -/

theorem execArmExpiry_keeps (dt : Time) (s : State) : Yields s.Keeps (execArmExpiry dt s) := by
  unfold execArmExpiry
  dsimp only
  split
  · next armed =>
    have counted (u : State) (n : Nat) : u.Keeps { u with session.falseApproaches := n } :=
      u.keeps_alike ⟨rfl, rfl, rfl, rfl, rfl, rfl, rfl, rfl, rfl, rfl, rfl⟩ rfl rfl
    refine (((s.advance_keeps dt).trans (State.raise_calm ..).keeps).trans (counted _ _)).trans (State.enterIdle_keeps ?_)
    exact SessionState.atWork_of_mem (by
      have state : s.session.state = .armed := by simpa using armed.1
      simp [state])
  · exact s.advance_keeps dt

theorem execStandstillExpiry_keeps (dt : Time) (s : State) : Yields s.Keeps (execStandstillExpiry dt s) := by
  unfold execStandstillExpiry
  dsimp only
  split
  · next inTrain =>
    have work : (s.advance dt).session.state.atWork := by rw [inTrain.1]; exact SessionState.atWork_inTrain
    split
    · exact (s.advance_keeps dt).trans (State.clearing_keeps work)
    · exact (s.advance_keeps dt).trans (State.enterStopped_keeps work)
  · exact s.advance_keeps dt

theorem execClearExpiry_keeps (dt : Time) (s : State) : Yields s.Keeps (execClearExpiry dt s) := by
  unfold execClearExpiry
  dsimp only
  split
  · next clearing =>
    exact (s.advance_keeps dt).trans (State.startClose_keeps _ (SessionState.atWork_of_mem (by
      have state : s.session.state = .clearing := by simpa using clearing.1
      simp [state])))
  · exact s.advance_keeps dt

theorem execAbandonExpiry_keeps (dt : Time) (s : State) : Yields s.Keeps (execAbandonExpiry dt s) := by
  unfold execAbandonExpiry
  dsimp only
  split
  · next stopped =>
    exact ((s.advance_keeps dt).trans (State.startClose_keeps _ (SessionState.atWork_of_mem (by
      have state : s.session.state = .stopped := by simpa using stopped.1
      simp [state])))).trans
      (State.raise_calm ..).keeps
  · exact s.advance_keeps dt

theorem execIdleExpiry_keeps (dt : Time) (s : State) : Yields s.Keeps (execIdleExpiry dt s) := by
  unfold execIdleExpiry
  dsimp only
  split
  · next idle =>
    exact (s.advance_keeps dt).trans (State.enterStandby_keeps (SessionState.atWork_of_mem (by
      have state : s.session.state = .idle := by simpa using idle.1
      simp [state])))
  · exact s.advance_keeps dt

theorem execSettleExpiry_keeps (dt : Time) (s : State) : Yields s.Keeps (execSettleExpiry dt s) := by
  unfold execSettleExpiry
  dsimp only
  split
  · refine (s.advance_keeps dt).trans (State.keeps_session _ (fun sound => ?_) id rfl)
    obtain ⟨power, ready, arm, standstill, clear, abandon, idle, -, record⟩ := sound
    exact ⟨power, ready, arm, standstill, clear, abandon, idle, by simp, record⟩
  · exact s.advance_keeps dt

/-! ## Axles, measurements, vehicles and reports -/

theorem execAxleOverdue_keeps (dt : Time) (k : Nat) (s : State) : Yields s.Keeps (execAxleOverdue dt k s) := by
  unfold execAxleOverdue
  dsimp only
  split
  · split
    · have marked (u : State) (l : List Nat) : u.Calm { u with axles.overdue := l } := u.calm_axles rfl rfl
      exact (s.advance_keeps dt).trans (marked ..).keeps
    · exact s.advance_keeps dt
  · exact s.advance_keeps dt

theorem execCloseMeasurementsDone_keeps (dt : Time) (s : State) : Yields s.Keeps (execCloseMeasurementsDone dt s) := by
  unfold execCloseMeasurementsDone
  dsimp only
  split
  · have dropped (u : State) : u.Calm { u with group.notices := 0 } := u.calm_with ..
    exact (((((s.advance_keeps dt).trans (dropped _).keeps).trans (State.closeVehicles_calm _).keeps).trans
      (State.closeOutliers_keeps _)).trans (State.closeCounts_keeps _)).trans (State.beginCopy_keeps _)
  · exact s.advance_keeps dt

theorem State.applySite_session {s : State} (closing : s.session.state = .closing) : s.applySite.session = s.session := by
  unfold State.applySite State.activateSite
  split
  · simp [closing]
  · rfl

theorem State.applyPending_session {s : State} (closing : s.session.state = .closing) :
    s.applyPending.session = s.session := by
  have kept := State.applyChannels_frame s.applySite allChannels
  exact kept.2.2.1.trans (State.applySite_session closing)

theorem execReportCopyComplete_keeps (dt : Time) (s : State) : Yields s.Keeps (execReportCopyComplete dt s) := by
  unfold execReportCopyComplete
  dsimp only
  split
  · next i rep _ =>
    split
    · next closing =>
      have settled : (s.advance dt).Calm ((s.advance dt).settleCopy rep).2 := State.calm_with ..
      refine (((((s.advance_keeps dt).trans settled.keeps).trans (State.install_keeps _ i _)).trans
        (State.offerResult_calm ..).keeps).trans (State.applyPending_keeps _)).trans (State.completeClose_keeps ?_)
      have state : ((((s.advance dt).settleCopy rep).2.install i ((s.advance dt).settleCopy rep).1).offerResult
          ((((s.advance dt).settleCopy rep).2.install i ((s.advance dt).settleCopy rep).1).trainEndFrame i)).session.state =
          .closing := by
        simpa using closing
      rw [State.applyPending_session state, state]
    · exact s.advance_keeps dt
  · exact s.advance_keeps dt

theorem execBayRead_keeps (dt : Time) (k : Nat) (rail : Rail) (bay : BayNo) (s : State) :
    Yields s.Keeps (execBayRead dt k rail bay s) :=
  (s.advance_keeps dt).trans (State.calm_with ..).keeps

theorem execLoadReadLimit_keeps (dt : Time) (k : Nat) (s : State) : Yields s.Keeps (execLoadReadLimit dt k s) :=
  (s.advance_keeps dt).trans (State.calm_with ..).keeps

theorem execScannerRead_keeps (dt : Time) (k : Nat) (rail : Rail) (s : State) :
    Yields s.Keeps (execScannerRead dt k rail s) :=
  (s.advance_keeps dt).trans (State.calm_with ..).keeps

theorem execBearingReadLimit_keeps (dt : Time) (k : Nat) (s : State) : Yields s.Keeps (execBearingReadLimit dt k s) :=
  (s.advance_keeps dt).trans (State.calm_with ..).keeps

theorem execLoadPartComplete_keeps (dt : Time) (k : Nat) (s : State) : Yields s.Keeps (execLoadPartComplete dt k s) := by
  unfold execLoadPartComplete
  split
  · split
    · exact (s.advance_keeps dt).trans (State.completeLoad_calm ..).keeps
    · exact s.advance_keeps dt
  · exact s.advance_keeps dt

theorem execBearingPartComplete_keeps (dt : Time) (k : Nat) (s : State) :
    Yields s.Keeps (execBearingPartComplete dt k s) := by
  unfold execBearingPartComplete
  split
  · split
    · exact (s.advance_keeps dt).trans (State.completeBearing_calm ..).keeps
    · exact s.advance_keeps dt
  · exact s.advance_keeps dt

theorem execSegmentationRun_keeps (dt : Time) (s : State) : Yields s.Keeps (execSegmentationRun dt s) := by
  unfold execSegmentationRun
  dsimp only
  split
  · exact s.advance_keeps dt
  · have served (u : State) (n : Nat) : u.Calm { u with group.notices := n } := u.calm_with ..
    exact (s.advance_keeps dt).trans ((served _ _).trans (State.runSegmentation_calm ..)).keeps

/-! ## Camera and gates -/

theorem execCameraPulseStart_keeps (dt : Time) (s : State) : Yields s.Keeps (execCameraPulseStart dt s) := by
  unfold execCameraPulseStart
  dsimp only
  split
  · next p rest queue _ =>
    split
    · have popped : (s.advance dt).Keeps { s.advance dt with gate.queue := rest } := State.keeps_camera _ fun within => by
        rw [queue] at within
        exact Nat.le_of_succ_le within
      exact ((s.advance_keeps dt).trans popped).trans (State.startPulse_calm ..).keeps
    · exact s.advance_keeps dt
  · exact s.advance_keeps dt

theorem execCameraPulseEnd_keeps (dt : Time) (s : State) : Yields s.Keeps (execCameraPulseEnd dt s) := by
  unfold execCameraPulseEnd
  dsimp only
  split
  · split
    · exact (s.advance_keeps dt).trans (State.calm_with ..).keeps
    · exact s.advance_keeps dt
  · exact s.advance_keeps dt

theorem execExitPulseEnd_keeps (dt : Time) (s : State) : Yields s.Keeps (execExitPulseEnd dt s) := by
  unfold execExitPulseEnd
  dsimp only
  split
  · split
    · exact (s.advance_keeps dt).trans (State.calm_with ..).keeps
    · exact s.advance_keeps dt
  · exact s.advance_keeps dt

/-! ## The node port -/

theorem execTimeMark_keeps (dt : Time) (s : State) : Yields s.Keeps (execTimeMark dt s) := by
  unfold execTimeMark
  dsimp only
  split
  · exact (s.advance_keeps dt).trans (State.calm_with ..).keeps
  · exact s.advance_keeps dt

theorem execDownstreamSend_keeps (dt : Time) (s : State) : Yields s.Keeps (execDownstreamSend dt s) := by
  unfold execDownstreamSend
  dsimp only
  split
  · exact (s.advance_keeps dt).trans (State.calm_with ..).keeps
  · refine (s.advance_keeps dt).trans ?_
    split <;> exact (State.calm_with ..).keeps

theorem execSamples_keeps (dt : Time) (frame : List Byte) (s : State) : Yields s.Keeps (execSamples dt frame s) := by
  unfold execSamples
  dsimp only
  split
  · exact ((((s.advance_keeps dt).trans (State.frameFrom_keeps ..)).trans (State.touchNode_calm ..).keeps).trans
      (State.storeFrame_keeps ..)).trans (State.forwardFrame_calm ..).keeps
  · exact s.advance_keeps dt

theorem execAutozeroBlockEnd_keeps (dt : Time) (i : ChanIdx) (s : State) :
    Yields s.Keeps (execAutozeroBlockEnd dt i s) := by
  unfold execAutozeroBlockEnd
  split
  · split
    · exact (s.advance_keeps dt).trans (State.endBlock_keeps ..)
    · exact s.advance_keeps dt
  · exact s.advance_keeps dt

theorem execIdentAnswer_keeps (dt : Time) (frame : List Byte) (s : State) :
    Yields s.Keeps (execIdentAnswer dt frame s) := by
  unfold execIdentAnswer
  dsimp only
  split
  · refine (s.advance_keeps dt).trans (State.Keeps.trans ?_ (State.touchNode_calm ..).keeps)
    split
    · exact State.resolveIdent_keeps ..
    · exact State.frameFrom_keeps ..
  · exact s.advance_keeps dt

/-- What every answer but an IDENT ANSWER does first (R63). -/
theorem State.received_keeps (s : State) (dt : Time) (k : NodeAddr) (srq : Bool) :
    s.Keeps (((s.advance dt).frameFrom k false).touchNode k srq) :=
  ((s.advance_keeps dt).trans (State.frameFrom_keeps ..)).trans (State.touchNode_calm ..).keeps

theorem execPollAnswer_keeps (dt : Time) (frame : List Byte) (s : State) : Yields s.Keeps (execPollAnswer dt frame s) := by
  unfold execPollAnswer
  dsimp only
  split
  · split
    · exact (s.received_keeps ..).trans (State.updNode_calm ..).keeps
    · exact s.received_keeps ..
  · exact s.advance_keeps dt

theorem execStatusAnswer_keeps (dt : Time) (frame : List Byte) (s : State) :
    Yields s.Keeps (execStatusAnswer dt frame s) := by
  have ended (u : State) (k : NodeAddr) (f : NodeEntry → NodeEntry) :
      u.Calm (({ u with node.work := none } : State).updNode k f) := u.calm_with ..
  unfold execStatusAnswer
  dsimp only
  split
  · split
    · split
      · split
        · exact (s.received_keeps ..).trans (ended ..).keeps
        · exact (s.received_keeps ..).trans ((ended ..).trans (State.applyStatus_calm ..)).keeps
      · exact s.received_keeps ..
    · exact s.received_keeps ..
  · exact s.advance_keeps dt

theorem execItemAnswer_keeps (dt : Time) (frame : List Byte) (s : State) : Yields s.Keeps (execItemAnswer dt frame s) := by
  unfold execItemAnswer
  dsimp only
  split
  · split
    · split
      · exact (s.received_keeps ..).trans (State.resolveItem_calm ..).keeps
      · exact s.received_keeps ..
    · exact s.received_keeps ..
  · exact s.advance_keeps dt

theorem execUpstreamDiscard_keeps (dt : Time) (frame : List Byte) (s : State) :
    Yields s.Keeps (execUpstreamDiscard dt frame s) := by
  have counted (u : State) (n : Nat) : u.Calm { u with node.discards := n } := u.calm_with ..
  unfold execUpstreamDiscard
  dsimp only
  split
  · exact s.advance_keeps dt
  · refine (s.advance_keeps dt).trans ?_
    split
    · exact ((counted _ _).trans (State.raise_calm ..)).keeps
    · exact (counted _ _).keeps

theorem execNodeSilence_keeps (dt : Time) (k : NodeAddr) (s : State) : Yields s.Keeps (execNodeSilence dt k s) := by
  unfold execNodeSilence
  dsimp only
  split
  · split
    · exact (s.advance_keeps dt).trans ((State.updNode_calm ..).trans (State.raise_calm ..)).keeps
    · exact s.advance_keeps dt
  · exact s.advance_keeps dt

theorem execIdent_keeps (dt : Time) (s : State) : Yields s.Keeps (execIdent dt s) := by
  unfold execIdent
  dsimp only
  split
  · exact (s.advance_keeps dt).trans (State.calm_with ..).keeps
  · exact s.advance_keeps dt

theorem execIdentTimeout_keeps (dt : Time) (s : State) : Yields s.Keeps (execIdentTimeout dt s) := by
  unfold execIdentTimeout
  dsimp only
  split
  · split
    · exact (s.advance_keeps dt).trans (State.calm_with ..).keeps
    · exact s.advance_keeps dt
  · exact s.advance_keeps dt

theorem execPoll_keeps (dt : Time) (s : State) : Yields s.Keeps (execPoll dt s) := by
  unfold execPoll
  dsimp only
  split
  · split
    · exact (s.advance_keeps dt).trans (State.calm_with ..).keeps
    · exact s.advance_keeps dt
  · exact s.advance_keeps dt

theorem execPollEnd_keeps (dt : Time) (s : State) : Yields s.Keeps (execPollEnd dt s) := by
  unfold execPollEnd
  dsimp only
  split
  · split
    · split <;> exact (s.advance_keeps dt).trans (State.calm_with ..).keeps
    · exact s.advance_keeps dt
  · exact s.advance_keeps dt

theorem execStatusRequest_keeps (dt : Time) (s : State) : Yields s.Keeps (execStatusRequest dt s) := by
  unfold execStatusRequest
  dsimp only
  split
  · exact (s.advance_keeps dt).trans (State.calm_with ..).keeps
  · exact s.advance_keeps dt

theorem execStatusReadTimeout_keeps (dt : Time) (s : State) : Yields s.Keeps (execStatusReadTimeout dt s) := by
  unfold execStatusReadTimeout
  dsimp only
  split
  · split
    · exact (s.advance_keeps dt).trans (State.calm_with ..).keeps
    · exact s.advance_keeps dt
  · exact s.advance_keeps dt

theorem execTransactionBegin_keeps (dt : Time) (s : State) : Yields s.Keeps (execTransactionBegin dt s) := by
  unfold execTransactionBegin
  dsimp only
  split
  · split
    · exact s.advance_keeps dt
    · split
      · exact (s.advance_keeps dt).trans (State.scanFrom_calm ..).keeps
      · exact (s.advance_keeps dt).trans (State.sendItem_calm ..).keeps
  · exact s.advance_keeps dt

theorem execItemTimeout_keeps (dt : Time) (s : State) : Yields s.Keeps (execItemTimeout dt s) := by
  unfold execItemTimeout
  dsimp only
  split
  · split
    · exact (s.advance_keeps dt).trans (State.resolveItem_calm ..).keeps
    · exact s.advance_keeps dt
  · exact s.advance_keeps dt

theorem execRingExpiry_keeps (dt : Time) (i : ChanIdx) (s : State) : Yields s.Keeps (execRingExpiry dt i s) := by
  unfold execRingExpiry
  split
  · split
    · exact (s.advance_keeps dt).trans (State.emptyRing_keeps ..)
    · exact s.advance_keeps dt
  · exact s.advance_keeps dt

/-! ## The station port -/

theorem execStationFrameReceive_keeps (dt : Time) (frame : List Byte) (s : State) :
    Yields s.Keeps (execStationFrameReceive dt frame s) := by
  unfold execStationFrameReceive
  dsimp only
  split
  · refine (s.advance_keeps dt).trans ?_
    split
    · exact (State.receiveCommand_calm ..).keeps
    · exact (State.discardStation_calm _).keeps
  · exact (s.advance_keeps dt).trans (State.discardStation_calm _).keeps

theorem execUnknownCommand_keeps (dt : Time) (s : State) : Yields s.Keeps (execUnknownCommand dt s) := by
  unfold execUnknownCommand
  dsimp only
  split
  · exact s.advance_keeps dt
  · next c rest front =>
    split
    · next room =>
      have taken := State.takeCommand_calm front
      split
      · split
        · exact s.advance_keeps dt
        · exact (s.advance_keeps dt).trans (taken.trans (State.answer_calm c _ _ room)).keeps
      · exact (s.advance_keeps dt).trans ((taken.trans (State.drawByte_calm _)).trans (State.placeReply_calm _ room)).keeps
    · exact s.advance_keeps dt

/-- The dispatcher keeps the laws when the command's owner does, in a state with room for the reply (R165, R166). -/
theorem State.serve_keepsLaws (s : State) (dt : Time) (code : Byte) (fits : Nat → Bool) {f : Command → State → State}
    (owner : ∀ (c : Command) (u : State), u.replyRoom = true → u.Keeps (f c u)) :
    s.Keeps ((s.advance dt).serve code fits f) := by
  refine (s.advance_keeps dt).trans (State.serve_preserves (s.advance dt).Keeps (.refl _) fun c rest front room => ?_)
  have taken := (State.takeCommand_calm front).keeps
  have room' : State.replyRoom { s.advance dt with port.commands := rest } = true := room
  exact ⟨taken.trans (State.answer_calm c _ _ room').keeps, taken.trans (owner c _ room')⟩

theorem execReportData_keeps (dt : Time) (s : State) : Yields s.Keeps (execReportData dt s) := by
  unfold execReportData
  dsimp only
  split
  · split
    · split
      · next room => exact (s.advance_keeps dt).trans (State.placeReport_keeps _ _ room)
      · exact s.advance_keeps dt
    · exact s.advance_keeps dt
  · exact s.advance_keeps dt

theorem execHeldReply_keeps (dt : Time) (s : State) : Yields s.Keeps (execHeldReply dt s) := by
  unfold execHeldReply
  dsimp only
  split
  · exact s.advance_keeps dt
  · split
    · next f rest _ room =>
      have placed : (s.advance dt).Calm { s.advance dt with
          port.replyQ := (s.advance dt).port.replyQ ++ [f], port.heldReplies := rest } :=
        (s.advance dt).calm_port fun b => { b with
          replyQ := by simpa [replyCapacity] using Nat.succ_le_of_lt room }
      exact (s.advance_keeps dt).trans placed.keeps
    · exact s.advance_keeps dt

/-! ## Every command -/

/-- Every command keeps each of the five laws, and answers a next state. -/
theorem exec_keeps (c : Instr) (s : State) : Yields s.Keeps (exec c s) := by
  cases c with
  | powerOn => exact s.powerOn_keeps
  | coilPinTransition => exact execCoilPinTransition_keeps ..
  | candidateCommit => exact execCandidateCommit_keeps ..
  | coilEdge => exact execCoilEdge_keeps ..
  | decoderStep dt h => exact (s.advance_keeps dt).trans (State.decode_keeps ..)
  | crossing => exact execCrossing_keeps ..
  | approachPinChange => exact execApproachPinChange_keeps ..
  | approachEdge => exact execApproachEdge_keeps ..
  | armExpiry => exact execArmExpiry_keeps ..
  | standstillExpiry => exact execStandstillExpiry_keeps ..
  | clearExpiry => exact execClearExpiry_keeps ..
  | abandonExpiry => exact execAbandonExpiry_keeps ..
  | idleExpiry => exact execIdleExpiry_keeps ..
  | settleExpiry => exact execSettleExpiry_keeps ..
  | axleOverdue => exact execAxleOverdue_keeps ..
  | closeMeasurementsDone => exact execCloseMeasurementsDone_keeps ..
  | reportCopyComplete => exact execReportCopyComplete_keeps ..
  | bayRead => exact execBayRead_keeps ..
  | loadReadLimit => exact execLoadReadLimit_keeps ..
  | loadPartComplete => exact execLoadPartComplete_keeps ..
  | scannerRead => exact execScannerRead_keeps ..
  | bearingReadLimit => exact execBearingReadLimit_keeps ..
  | bearingPartComplete => exact execBearingPartComplete_keeps ..
  | segmentationRun => exact execSegmentationRun_keeps ..
  | cameraPulseStart => exact execCameraPulseStart_keeps ..
  | cameraPulseEnd => exact execCameraPulseEnd_keeps ..
  | exitPulseEnd => exact execExitPulseEnd_keeps ..
  | timeMark => exact execTimeMark_keeps ..
  | downstreamSend => exact execDownstreamSend_keeps ..
  | samples => exact execSamples_keeps ..
  | autozeroBlockEnd => exact execAutozeroBlockEnd_keeps ..
  | identAnswer => exact execIdentAnswer_keeps ..
  | pollAnswer => exact execPollAnswer_keeps ..
  | statusAnswer => exact execStatusAnswer_keeps ..
  | itemAnswer => exact execItemAnswer_keeps ..
  | upstreamDiscard => exact execUpstreamDiscard_keeps ..
  | nodeSilence => exact execNodeSilence_keeps ..
  | ident => exact execIdent_keeps ..
  | identTimeout => exact execIdentTimeout_keeps ..
  | poll => exact execPoll_keeps ..
  | pollEnd => exact execPollEnd_keeps ..
  | statusRequest => exact execStatusRequest_keeps ..
  | statusReadTimeout => exact execStatusReadTimeout_keeps ..
  | transactionBegin => exact execTransactionBegin_keeps ..
  | itemTimeout => exact execItemTimeout_keeps ..
  | ringExpiry => exact execRingExpiry_keeps ..
  | stationFrameReceive => exact execStationFrameReceive_keeps ..
  | unknownCommand => exact execUnknownCommand_keeps ..
  | loadTable dt => exact s.serve_keepsLaws dt _ _ fun c u => State.serveLoadTable_keeps c
  | readTable dt => exact s.serve_keepsLaws dt _ _ fun c u => State.serveReadTable_keeps c
  | describe dt => exact s.serve_keepsLaws dt _ _ fun c u room => (State.answer_calm c _ _ room).keeps
  | readStatus dt => exact s.serve_keepsLaws dt _ _ fun c u room => (State.answer_calm c _ _ room).keeps
  | siteReset dt => exact s.serve_keepsLaws dt _ _ fun c u _ => State.serveSiteReset_keeps c u
  | standby dt => exact s.serve_keepsLaws dt _ _ fun c u => State.serveStandby_keeps c
  | wake dt => exact s.serve_keepsLaws dt _ _ fun c u => State.serveWake_keeps c
  | closeTrain dt => exact s.serve_keepsLaws dt _ _ fun c u => State.serveCloseTrain_keeps c
  | readAxle dt => exact s.serve_keepsLaws dt _ _ fun c u => State.serveReadAxle_keeps c
  | nodeTransaction dt => exact s.serve_keepsLaws dt _ _ fun c u => State.serveNodeTransaction_keeps c
  | topAlert dt => exact s.serve_keepsLaws dt _ _ fun c u room => (State.answer_calm c _ _ room).keeps
  | clearAlert dt => exact s.serve_keepsLaws dt _ _ fun c u => State.serveClearAlert_keeps c
  | setAlertEnable dt => exact s.serve_keepsLaws dt _ _ fun c u => State.serveSetAlertEnable_keeps c
  | reportDirectory dt => exact s.serve_keepsLaws dt _ _ fun c u room => (State.answer_calm c _ _ room).keeps
  | readReport dt => exact s.serve_keepsLaws dt _ _ fun c u => State.serveReadReport_keeps c
  | abortReadout dt => exact s.serve_keepsLaws dt _ _ fun c u => State.serveAbort_keeps c
  | releaseReport dt => exact s.serve_keepsLaws dt _ _ fun c u => State.serveRelease_keeps c
  | reportData => exact execReportData_keeps ..
  | heldReply => exact execHeldReply_keeps ..
  | transmitArbiter dt => exact (s.advance_keeps dt).trans (State.arbitrate_keeps _)

/-- One step keeps each of the five laws: the command taken from the queue leaves a state that only the queue tells from
the one before. -/
theorem step_keeps {s t : State} (stepped : step s = .next t) : s.Keeps t := by
  unfold step at stepped
  split at stepped
  · cases stepped
    exact s.advance_keeps 1
  · next c rest _ =>
    have kept := exec_keeps c { s with pending := rest }
    rw [stepped] at kept
    have taken : s.Calm { s with pending := rest } := s.calm_with ..
    exact taken.keeps.trans kept

/-! ## The statements -/

/-- Settles O3, by the step that keeps all five laws. -/
theorem sessionLawsKept : Obligations.SessionLawsKept := fun _ _ sound stepped => (step_keeps stepped).session sound

/-- Settles O4, by the step that keeps all five laws. -/
theorem capacitiesKept : Obligations.CapacitiesKept := fun _ _ sound stepped => (step_keeps stepped).bounded sound

/-- Settles O5, by the step that keeps all five laws. -/
theorem axleTableLawKept : Obligations.AxleTableLawKept := fun _ _ sound stepped => (step_keeps stepped).axles sound

/-- Settles O6, by the step that keeps all five laws. -/
theorem reportBalanceKept : Obligations.ReportBalanceKept := fun _ _ sound stepped => (step_keeps stepped).reports sound

/-- Settles O7, by the step that keeps all five laws. -/
theorem trackedOffsetsKept : Obligations.TrackedOffsetsKept := fun _ _ sound stepped => (step_keeps stepped).offsets sound

end Sys2Proof.Machine

/-!
PROOFS. The block as a whole (sections 1.1 and 2.1): one step, the clock and the queue of every command, power-on, the laws
at reset, and the comparison of times.
-/

namespace Sys2Proof.Machine

/-- Settles O1: the queue's two forms are the two branches of `step`. -/
theorem stepRunsTheFrontCommand : Obligations.StepRunsTheFrontCommand :=
  ⟨fun s c rest front => by simp [step, front], fun s empty => by simp [step, empty, State.advance]⟩

/-! ## Every command answers a next state (R1) -/

/-- `t` has the queue of `s`, and the clock of `s` moved on by `dt`. -/
structure State.Timed (s : State) (dt : Time) (t : State) : Prop where
  pending : t.pending = s.pending
  clock : t.clock = s.clock + dt

/-- The dispatcher moves neither clock nor queue when the command's owner does not. -/
theorem State.serve_timed (s : State) (dt : Time) (code : Byte) (fits : Nat → Bool) {f : Command → State → State}
    (owner : ∀ c u, (f c u).pending = u.pending ∧ (f c u).clock = u.clock) :
    s.Timed dt ((s.advance dt).serve code fits f) where
  pending := (State.serve_keeps State.pending _ _ _ _ (fun _ _ => rfl) (by simp) fun c u => (owner c u).1).trans rfl
  clock := (State.serve_keeps State.clock _ _ _ _ (fun _ _ => rfl) (by simp) fun c u => (owner c u).2).trans rfl

/-- What every command but POWER_ON answers: each operation of a row leaves clock and queue alone, as its frame says, so
only the passing of time moves the clock. -/
theorem exec_timed (c : Instr) (s : State) (notReset : c ≠ .powerOn) : Yields (s.Timed c.dt) (exec c s) := by
  cases c with
  | powerOn => exact absurd rfl notReset
  | loadTable dt => exact s.serve_timed dt _ _ fun c u => by simp
  | readTable dt => exact s.serve_timed dt _ _ fun c u => by simp
  | describe dt => exact s.serve_timed dt _ _ fun c u => by simp
  | readStatus dt => exact s.serve_timed dt _ _ fun c u => by simp
  | siteReset dt => exact s.serve_timed dt _ _ fun c u => by simp
  | standby dt => exact s.serve_timed dt _ _ fun c u => by simp
  | wake dt => exact s.serve_timed dt _ _ fun c u => by simp
  | closeTrain dt => exact s.serve_timed dt _ _ fun c u => by simp
  | readAxle dt => exact s.serve_timed dt _ _ fun c u => by simp
  | nodeTransaction dt => exact s.serve_timed dt _ _ fun c u => by simp
  | topAlert dt => exact s.serve_timed dt _ _ fun c u => by simp
  | clearAlert dt => exact s.serve_timed dt _ _ fun c u => by simp
  | setAlertEnable dt => exact s.serve_timed dt _ _ fun c u => by simp
  | reportDirectory dt => exact s.serve_timed dt _ _ fun c u => by simp
  | readReport dt => exact s.serve_timed dt _ _ fun c u => by simp
  | abortReadout dt => exact s.serve_timed dt _ _ fun c u => by simp
  | releaseReport dt => exact s.serve_timed dt _ _ fun c u => by simp
  | _ =>
    simp only [exec, Instr.dt, execCoilPinTransition, execCandidateCommit, execCoilEdge, execDecoderStep, execCrossing,
      execApproachPinChange, execApproachEdge, execArmExpiry, execStandstillExpiry, execClearExpiry,
      execAbandonExpiry, execIdleExpiry, execSettleExpiry, execAxleOverdue, execCloseMeasurementsDone,
      execReportCopyComplete, execBayRead, execLoadReadLimit, execLoadPartComplete, execScannerRead,
      execBearingReadLimit, execBearingPartComplete, execSegmentationRun, execCameraPulseStart,
      execCameraPulseEnd, execExitPulseEnd, execTimeMark, execDownstreamSend, execSamples, execAutozeroBlockEnd,
      execIdentAnswer, execPollAnswer, execStatusAnswer, execItemAnswer, execUpstreamDiscard, execNodeSilence,
      execIdent, execIdentTimeout, execPoll, execPollEnd, execStatusRequest, execStatusReadTimeout,
      execTransactionBegin, execItemTimeout, execRingExpiry, execStationFrameReceive, execUnknownCommand,
      execReportData, execHeldReply, execTransmitArbiter]
    repeat' split
    all_goals exact ⟨by simp, by simp⟩

/-- Settles O2: POWER_ON by its definition, every other command by `exec_timed`. -/
theorem everyCommandAnswersNext : Obligations.EveryCommandAnswersNext := by
  intro c s
  by_cases reset : c = .powerOn
  · subst reset
    exact ⟨s.powerOn, rfl, rfl, rfl⟩
  · have timed := exec_timed c s reset
    cases answer : exec c s with
    | next t =>
      rw [answer] at timed
      exact ⟨t, rfl, timed.pending, by rw [if_neg reset, timed.clock]⟩
    | fault f => exact f.casesOn
    | refused r =>
      rw [answer] at timed
      exact timed.elim

/-! ## Reset and power-on -/

/-- Settles O8: at reset every collection is empty, every count 0 and every entry never loaded. -/
theorem lawsHoldAtReset : Obligations.LawsHoldAtReset := by
  have fresh (i : ChanIdx) : State.reset.load.zero[i] = freshZero State.reset.tables.active.channels[i] := by
    simp [State.reset, freshZero]
  refine ⟨?_, ?_, .of_empty rfl rfl rfl rfl rfl, .of_empty rfl, ?_⟩
  · constructor <;> simp [State.reset, State.site]
  · constructor <;> simp [State.reset, HeadState.QueuesBounded]
  · exact ⟨fun i => (State.zeroSound_of_fresh (fresh i)).1, fun i => (State.zeroSound_of_fresh (fresh i)).2.1,
      fun i => (State.zeroSound_of_fresh (fresh i)).2.2⟩

/-- Settles O9: `State.powerOn` names what outlives a power-on; every other field has its power-on value. -/
theorem powerOnLeaves : Obligations.PowerOnLeaves := by
  refine fun s => ⟨s.powerOn, rfl, rfl, rfl, fun h => ?_⟩
  cases h <;> rfl

/-! ## Times (R2) -/

theorem Time.sub_toNat (a b : Time) : (a - b).toNat = (a.toNat + 2 ^ 32 - b.toNat) % 2 ^ 32 := by
  rw [BitVec.toNat_sub]
  have := b.isLt
  congr 1
  omega

/-- Settles O10: each comparison is one on the difference of the two times modulo 2^32. -/
theorem timesCompareModulo : Obligations.TimesCompareModulo := by
  refine ⟨fun now t => ?_, fun t1 t2 => ?_, fun _ _ => Iff.rfl⟩
  · simp only [reached, decide_eq_true_iff, Time.sub_toNat]
    exact Iff.rfl
  · simp only [older, decide_eq_true_iff, Time.sub_toNat]
    omega

end Sys2Proof.Machine

/-!
PROOFS. Chapter 1: the edge filter, the capture queue and the head decoder.
-/

namespace Sys2Proof.Machine

/-! ## Edge filter and capture queue (R4 to R7) -/

theorem CoilLine.commit_of_room {l : CoilLine} (cand : Candidate) (room : l.queue.length < 4) :
    l.commit cand = { l with
      queue := l.queue ++ [⟨cand.time, cand.rise⟩], filtered := cand.rise, candidate := none
      toSession := l.toSession ++ [cand.time] } := by
  have notFull : ¬ 4 ≤ l.queue.length := by omega
  simp [CoilLine.commit, queueCapacity, room, notFull]

theorem CoilLine.commit_of_full {l : CoilLine} (cand : Candidate) {e : Edge} {q : List Edge} (queue : l.queue = e :: q)
    (full : q.length = 3) :
    l.commit cand = { l with
      queue := q ++ [⟨cand.time, cand.rise⟩], overrun := true, filtered := cand.rise, candidate := none
      toSession := l.toSession ++ [cand.time] } := by
  simp [CoilLine.commit, queueCapacity, queue, full]

theorem State.commitCandidate_of_room {s : State} {h : Head} {c : Coil} (cand : Candidate)
    (room : ((s.head h).line c).queue.length < 4) :
    s.commitCandidate h c cand = s.setHead h ((s.head h).setLine c (((s.head h).line c).commit cand)) := by
  have notFull : ¬ 4 ≤ ((s.head h).line c).queue.length := by omega
  simp [State.commitCandidate, queueCapacity, notFull]

/-- A head fault counted on a head just set: one update of the head, then the raise (R7). -/
theorem State.setHead_headFault (s : State) (h : Head) (hs : HeadState) :
    (s.setHead h hs).headFault h =
      (s.setHead h { hs with faults := min (hs.faults + 1) 65535 }).raise .n5 (.head s.session.seq h) := by
  simp [State.headFault, bump]

section
variable {s : State} {h : Head} {c : Coil} {lvl : Bool}

theorem State.pinTransition_new (moved : ((s.head h).line c).pin ≠ lvl) (clear : ((s.head h).line c).candidate = none)
    (new : ((s.head h).line c).filtered ≠ lvl) :
    s.pinTransition h c lvl = s.setHead h ((s.head h).setLine c
      { (s.head h).line c with pin := lvl, candidate := some ⟨s.clock, lvl, s.minPulse⟩ }) := by
  simp [State.pinTransition, moved, clear, new.symm, State.setPin, State.formCandidate, State.minPulse, State.site]

theorem State.pinTransition_chatter {cand : Candidate} (moved : ((s.head h).line c).pin ≠ lvl)
    (standing : ((s.head h).line c).candidate = some cand) (short : (s.clock - cand.time).toNat < cand.minPulse) :
    s.pinTransition h c lvl = s.setHead h
      { (s.head h).setLine c { (s.head h).line c with pin := lvl, candidate := none } with
        chatter := min ((s.head h).chatter + 1) 65535 } := by
  simp only [State.pinTransition, if_neg moved, standing, if_pos short]
  simp [State.setPin, State.dropPulse, bump]

theorem State.pinTransition_commit {cand : Candidate} (moved : ((s.head h).line c).pin ≠ lvl)
    (standing : ((s.head h).line c).candidate = some cand) (long : cand.minPulse ≤ (s.clock - cand.time).toNat)
    (room : ((s.head h).line c).queue.length < 4) :
    s.pinTransition h c lvl = s.setHead h ((s.head h).setLine c
      { (s.head h).line c with
        pin := lvl, filtered := cand.rise, queue := ((s.head h).line c).queue ++ [⟨cand.time, cand.rise⟩]
        candidate := some ⟨s.clock, lvl, s.minPulse⟩, toSession := ((s.head h).line c).toSession ++ [cand.time] }) := by
  have within : (((s.setPin h c lvl).head h).line c).queue.length < 4 := by simpa [State.setPin] using room
  simp only [State.pinTransition, if_neg moved, standing, if_neg (Nat.not_lt.2 long)]
  rw [State.commitCandidate_of_room cand within, CoilLine.commit_of_room cand within]
  simp [State.setPin, State.formCandidate, State.minPulse, State.site]

end

/-- Settles O11: the three cases of a pin's change, by the candidate standing and the length of the pulse. -/
theorem pinTransitionsFormCandidates : Obligations.PinTransitionsFormCandidates := by
  refine ⟨fun s dt h c lvl moved clear new => ?_, fun s dt h c lvl cand moved standing => ⟨fun short => ?_, fun long room => ?_⟩⟩ <;>
    rw [← s.advance_line dt] at *
  · exact congrArg _ (State.pinTransition_new moved clear new)
  · exact congrArg _ (State.pinTransition_chatter moved standing short)
  · exact congrArg _ (State.pinTransition_commit moved standing long room)

theorem State.commitCandidate_of_full {s : State} {h : Head} {c : Coil} (cand : Candidate) {e : Edge} {q : List Edge}
    (queue : ((s.head h).line c).queue = e :: q) (full : q.length = 3) :
    s.commitCandidate h c cand =
      if ((s.head h).line c).overrun then s.setHead h ((s.head h).setLine c (((s.head h).line c).commit cand))
      else (s.setHead h ((s.head h).setLine c (((s.head h).line c).commit cand)).enterResync).headFault h := by
  have atBound : queueCapacity ≤ ((s.head h).line c).queue.length := by simp [queueCapacity, queue, full]
  cases overrun : ((s.head h).line c).overrun <;> simp [State.commitCandidate, atBound, overrun]

theorem execCandidateCommit_of_due {s : State} {dt : Time} {h : Head} {c : Coil} {cand : Candidate}
    (standing : (((s.advance dt).head h).line c).candidate = some cand)
    (held : (((s.advance dt).head h).line c).pin = cand.rise)
    (due : reached (s.clock + dt) (cand.time + micros cand.minPulse) = true) :
    exec (.candidateCommit dt h c) s = .next ((s.advance dt).commitCandidate h c cand) := by
  have found : (s.advance dt).dueCandidate h c = some cand := by
    simp only [State.dueCandidate, standing, State.advance_clock, due, held, and_self, if_true]
  simp [exec, execCandidateCommit, found]

/-- Settles O12: a due candidate meets room in the queue, or a full queue with OVERRUN set or not. -/
theorem candidateIsCommitted : Obligations.CandidateIsCommitted := by
  refine ⟨fun s dt h c cand standing held due room => ?_, fun s dt h c cand e q standing held due queue full => ?_⟩ <;>
    rw [← s.advance_line dt] at *
  · rw [execCandidateCommit_of_due standing held due, State.commitCandidate_of_room cand room,
      CoilLine.commit_of_room cand room]
  · rw [execCandidateCommit_of_due standing held due, State.commitCandidate_of_full cand queue full,
      CoilLine.commit_of_full cand queue full, State.setHead_headFault]
    exact apply_ite Host.Outcome.next _ _ _

/-! ## Head decoder (R8 to R12) -/

theorem CoilLine.take_eq {l : CoilLine} {e : Edge} {q : List Edge} (queue : l.queue = e :: q) :
    l.take = { l with queue := q, overrun := l.overrun && decide (q ≠ []) } := by
  simp [CoilLine.take, queue, List.length_pos_iff]

/-- A SKIP (R11). -/
theorem HeadState.step_skip {hs : HeadState} {c : Coil} {e : Edge} (skip : hs.phaseOf c = e.rise) :
    hs.step c e = { head := (hs.setLine c (hs.line c).take).enterResync.settleResync, fault := !hs.resync } := by
  simp [HeadState.step, skip]

/-- A fitting step in RESYNC (R12). -/
theorem HeadState.step_resync {hs : HeadState} {c : Coil} {e : Edge} (fits : hs.phaseOf c ≠ e.rise)
    (resync : hs.resync = true) :
    hs.step c e =
      let hp := (hs.setLine c (hs.line c).take).setPhase c e.rise
      { head := ({ hp with resync := hp.phase1 || hp.phase2 } : HeadState).settleResync } := by
  simp [HeadState.step, fits, resync]

/-- A fitting step in TRACKING (R9). -/
theorem HeadState.step_track {hs : HeadState} {c : Coil} {e : Edge} (fits : hs.phaseOf c ≠ e.rise)
    (tracking : hs.resync = false) :
    hs.step c e =
      { head := { (hs.setLine c (hs.line c).take).setPhase c e.rise with passage := (hs.track c e).1 }
        emitted := (hs.track c e).2 } := by
  simp [HeadState.step, fits, tracking]

@[simp] theorem HeadState.setPhase_rest (hs : HeadState) (c : Coil) (lvl : Bool) :
    (hs.setPhase c lvl).c1 = hs.c1 ∧ (hs.setPhase c lvl).c2 = hs.c2 ∧ (hs.setPhase c lvl).resync = hs.resync ∧
    (hs.setPhase c lvl).passage = hs.passage ∧ (hs.setPhase c lvl).busy = hs.busy ∧
    (hs.setPhase c lvl).count = hs.count ∧ (hs.setPhase c lvl).chatter = hs.chatter ∧
    (hs.setPhase c lvl).faults = hs.faults ∧ (hs.setPhase c lvl).emitted = hs.emitted := by
  cases c <;> exact ⟨rfl, rfl, rfl, rfl, rfl, rfl, rfl, rfl, rfl⟩

/-- Settles O13: Table 1.3 row by row, for each coil. -/
theorem trackingFollowsTable13 : Obligations.TrackingFollowsTable13 := by
  intro hs e tracking
  refine ⟨fun c fits => ?_, fun ⟨p1, p2, rise⟩ c => ?_, fun c d other ⟨low, high, rise⟩ => ?_,
    fun c ⟨p1, p2, fall⟩ => ?_, fun c d other ⟨high, low, fall⟩ => ?_⟩
  · rw [HeadState.step_track fits tracking]
    simp [tracking]
  · have fits : hs.phaseOf c ≠ e.rise := by cases c <;> simp [HeadState.phaseOf, p1, p2, rise]
    rw [HeadState.step_track fits tracking]
    cases c <;> simp [HeadState.track, HeadState.setPhase, p1, p2, rise]
  · have fits : hs.phaseOf c ≠ e.rise := by simp [low, rise]
    rw [HeadState.step_track fits tracking]
    cases c <;> cases d <;> simp_all [HeadState.track, HeadState.setPhase, HeadState.phaseOf]
    all_goals
      congr 1
      funext p
      cases second : p.secondRise <;> simp [Passage.enter11, second]
  · have fits : hs.phaseOf c ≠ e.rise := by cases c <;> simp [HeadState.phaseOf, p1, p2, fall]
    rw [HeadState.step_track fits tracking]
    cases c <;> simp [HeadState.track, HeadState.setPhase, p1, p2, fall]
  · have fits : hs.phaseOf c ≠ e.rise := by simp [high, fall]
    rw [HeadState.step_track fits tracking]
    cases c <;> cases d <;> simp_all [HeadState.track, HeadState.setPhase, HeadState.phaseOf, Option.filter_some]

/-! ### The row DECODER_STEP -/

theorem execDecoderStep_takes {s : State} {dt : Time} {h : Head} {c : Coil} {e : Edge} {q : List Edge}
    (idle : (s.head h).busy ≤ dt.toNat) (next : (s.head h).nextCoil = some c)
    (queue : ((s.head h).line c).queue = e :: q) (alone : (s.advance dt).tieAhead h e = false) :
    exec (.decoderStep dt h) s = .next ((s.advance dt).applyStep h (((s.advance dt).head h).step c e)) := by
  have next' : ((s.advance dt).head h).nextCoil = some c := by rw [s.advance_head dt h]; exact next
  have free : ((s.advance dt).head h).busy = 0 := by simpa using Nat.sub_eq_zero_of_le idle
  rw [← s.advance_line dt] at queue
  simp only [exec, execDecoderStep, State.decode, next', queue, free, alone]
  simp

theorem State.applyStep_silent (s : State) (h : Head) (hs : HeadState) :
    s.applyStep h { head := hs } = s.setHead h { hs with busy := 20 } := by
  simp [State.applyStep, decoderStepTime]

theorem State.applyStep_fault (s : State) (h : Head) (hs : HeadState) :
    s.applyStep h { head := hs, fault := true } =
      (s.setHead h { hs with busy := 20, faults := min (hs.faults + 1) 65535 }).raise .n5 (.head s.session.seq h) := by
  simp [State.applyStep, decoderStepTime, State.setHead_headFault]

/-- The decoder with its phase read from the filtered levels (R12). -/
def HeadState.reread (hs : HeadState) : HeadState :=
  { hs with phase1 := hs.c1.filtered, phase2 := hs.c2.filtered, resync := hs.c1.filtered || hs.c2.filtered }

/-- No edge waits in either queue. -/
def HeadState.emptied (hs : HeadState) : Prop := hs.c1.queue = [] ∧ hs.c2.queue = []

theorem HeadState.settleResync_of_tracking {hs : HeadState} (tracking : hs.resync = false) : hs.settleResync = hs := by
  simp [HeadState.settleResync, tracking]

theorem HeadState.settleResync_of_waiting {hs : HeadState} (waiting : ¬ hs.emptied) : hs.settleResync = hs :=
  if_neg fun h => waiting h.2

theorem HeadState.settleResync_of_emptied {hs : HeadState} (resync : hs.resync = true) (emptied : hs.emptied) :
    hs.settleResync = hs.reread := if_pos ⟨resync, emptied⟩

section
variable {hs : HeadState} {c : Coil} {e : Edge} {q : List Edge}

/-- The first rise on a clear head begins a crossing (R9). -/
theorem HeadState.step_begins (tracking : hs.resync = false) (p1 : hs.phase1 = false) (p2 : hs.phase2 = false)
    (rise : e.rise = true) :
    hs.step c e = { head := { (hs.setLine c (hs.line c).take).setPhase c true with
      passage := some { dir := if c = .c1 then .forward else .reverse, firstRise := e.time } } } := by
  have fits : hs.phaseOf c ≠ e.rise := by cases c <;> simp [HeadState.phaseOf, p1, p2, rise]
  rw [HeadState.step_track fits tracking]
  cases c <;> simp [HeadState.track, p1, p2, rise]

/-- The fall that clears the head by the near coil ends the crossing in progress (R9). -/
theorem HeadState.step_turnsBack {p : Passage} (tracking : hs.resync = false) (passage : hs.passage = some p)
    (near : c = if p.dir = .forward then .c1 else .c2) (p1 : hs.phase1 = decide (c = .c1))
    (p2 : hs.phase2 = decide (c = .c2)) (fall : e.rise = false) :
    hs.step c e = { head := { (hs.setLine c (hs.line c).take).setPhase c false with passage := none } } := by
  have fits : hs.phaseOf c ≠ e.rise := by cases c <;> simp [HeadState.phaseOf, p1, p2, fall]
  rw [HeadState.step_track fits tracking]
  cases dir : p.dir <;> simp only [dir] at near <;> subst near <;> simp_all [HeadState.track]

/-- The fall that clears the head by the far coil emits the crossing (R9). -/
theorem HeadState.step_emits {p : Passage} (tracking : hs.resync = false) (passage : hs.passage = some p)
    (far : c = if p.dir = .forward then .c2 else .c1) (p1 : hs.phase1 = decide (c = .c1))
    (p2 : hs.phase2 = decide (c = .c2)) (fall : e.rise = false) :
    hs.step c e =
      { head := { (hs.setLine c (hs.line c).take).setPhase c false with passage := none }, emitted := some p } := by
  have fits : hs.phaseOf c ≠ e.rise := by cases c <;> simp [HeadState.phaseOf, p1, p2, fall]
  rw [HeadState.step_track fits tracking]
  cases dir : p.dir <;> simp only [dir] at far <;> subst far <;> simp_all [HeadState.track]

end

/-- The decoder while it works on the edge taken from coil `c`, which leaves `q` in the queue. -/
def HeadState.taken (hs : HeadState) (c : Coil) (q : List Edge) : HeadState :=
  { hs.setLine c { hs.line c with queue := q, overrun := (hs.line c).overrun && decide (q ≠ []) } with busy := 20 }

section
variable {s : State} {h : Head} {c : Coil} {e : Edge} {q : List Edge}

theorem HeadState.busy_taken {hs : HeadState} (queue : (hs.line c).queue = e :: q) :
    { hs.setLine c (hs.line c).take with busy := 20 } = hs.taken c q := by
  rw [CoilLine.take_eq queue]; rfl

theorem HeadState.setPhase_emptied (hs : HeadState) (lvl : Bool) : (hs.setPhase c lvl).emptied ↔ hs.emptied := by
  simp [HeadState.emptied]

/-- A SKIP in RESYNC counts no fault (R12). -/
theorem State.applyStep_skip_resync (queue : ((s.head h).line c).queue = e :: q) (skip : (s.head h).phaseOf c = e.rise)
    (resync : (s.head h).resync = true) :
    let x : HeadState := { (s.head h).taken c q with passage := none }
    (¬ x.emptied → s.applyStep h ((s.head h).step c e) = s.setHead h x) ∧
    (x.emptied → s.applyStep h ((s.head h).step c e) = s.setHead h x.reread) := by
  have same : ((s.head h).setLine c ((s.head h).line c).take).enterResync =
      { (s.head h).setLine c ((s.head h).line c).take with passage := none } := by
    simp [HeadState.enterResync, resync]
  rw [HeadState.step_skip skip, same, resync, Bool.not_true, State.applyStep_silent, CoilLine.take_eq queue]
  refine ⟨fun waiting => ?_, fun empty => ?_⟩
  · rw [HeadState.settleResync_of_waiting (by exact waiting)]; rfl
  · rw [HeadState.settleResync_of_emptied (by simp [resync]) (by exact empty)]; rfl

/-- A SKIP in TRACKING counts a head fault (R7, R11). -/
theorem State.applyStep_skip_tracking (queue : ((s.head h).line c).queue = e :: q) (skip : (s.head h).phaseOf c = e.rise)
    (tracking : (s.head h).resync = false) :
    let taken := (s.head h).taken c q
    let x : HeadState := { taken with passage := none, faults := min (taken.faults + 1) 65535 }
    (¬ x.emptied → s.applyStep h ((s.head h).step c e) =
      (s.setHead h { x with resync := true }).raise .n5 (.head s.session.seq h)) ∧
    (x.emptied → s.applyStep h ((s.head h).step c e) = (s.setHead h x.reread).raise .n5 (.head s.session.seq h)) := by
  rw [HeadState.step_skip skip, tracking, Bool.not_false, State.applyStep_fault, CoilLine.take_eq queue]
  refine ⟨fun waiting => ?_, fun empty => ?_⟩
  · rw [HeadState.settleResync_of_waiting (by exact waiting)]
    simp [HeadState.taken, HeadState.enterResync]
  · rw [HeadState.settleResync_of_emptied rfl (by exact empty)]
    simp [HeadState.taken, HeadState.enterResync, HeadState.reread]

/-- A fitting step in RESYNC sets the phase alone (R12). -/
theorem State.applyStep_fits_resync (queue : ((s.head h).line c).queue = e :: q) (fits : (s.head h).phaseOf c ≠ e.rise)
    (resync : (s.head h).resync = true) :
    let x := ((s.head h).taken c q).setPhase c e.rise
    (x.phase1 = false ∧ x.phase2 = false → s.applyStep h ((s.head h).step c e) = s.setHead h { x with resync := false }) ∧
    (x.phase1 = true ∨ x.phase2 = true → ¬ x.emptied → s.applyStep h ((s.head h).step c e) = s.setHead h x) ∧
    (x.phase1 = true ∨ x.phase2 = true → x.emptied → s.applyStep h ((s.head h).step c e) = s.setHead h x.reread) := by
  have phases : ((s.head h).taken c q).setPhase c e.rise =
      { ((s.head h).setLine c ((s.head h).line c).take).setPhase c e.rise with busy := 20 } := by
    rw [← HeadState.busy_taken queue]; cases c <;> rfl
  rw [HeadState.step_resync fits resync, phases]
  have still : (((s.head h).setLine c ((s.head h).line c).take).setPhase c e.rise).resync = true := by simp [resync]
  revert still
  generalize ((s.head h).setLine c ((s.head h).line c).take).setPhase c e.rise = x
  intro still
  have same (occupied : x.phase1 = true ∨ x.phase2 = true) : { x with resync := x.phase1 || x.phase2 } = x := by
    have level : (x.phase1 || x.phase2) = true := by simpa using occupied
    rw [level, ← still]
  dsimp only
  rw [State.applyStep_silent]
  refine ⟨fun ⟨p1, p2⟩ => ?_, fun occupied waiting => ?_, fun occupied empty => ?_⟩
  · rw [HeadState.settleResync_of_tracking (by simp [p1, p2]), p1, p2]; rfl
  · rw [same occupied, HeadState.settleResync_of_waiting (by exact waiting)]
  · rw [same occupied, HeadState.settleResync_of_emptied still (by exact empty)]; rfl

end

/-- What the passing of time leaves of a head: everything but the decoder step in progress. -/
theorem State.advance_head_parts (s : State) (dt : Time) (h : Head) :
    ((s.advance dt).head h).resync = (s.head h).resync ∧ ((s.advance dt).head h).phase1 = (s.head h).phase1 ∧
    ((s.advance dt).head h).phase2 = (s.head h).phase2 ∧ ((s.advance dt).head h).passage = (s.head h).passage ∧
    ∀ c, ((s.advance dt).head h).phaseOf c = (s.head h).phaseOf c := by
  cases h <;> exact ⟨rfl, rfl, rfl, rfl, fun c => by cases c <;> rfl⟩

theorem HeadState.taken_setPhase {hs : HeadState} {c : Coil} {e : Edge} {q : List Edge}
    (queue : (hs.line c).queue = e :: q) (lvl : Bool) (p : Option Passage) :
    { (hs.setLine c (hs.line c).take).setPhase c lvl with passage := p, busy := 20 } =
      { (hs.taken c q).setPhase c lvl with passage := p } := by
  rw [← HeadState.busy_taken queue]; cases c <;> rfl

/-- Settles O14: the row takes the oldest edge, and the branches of `HeadState.step` say what it makes of it. -/
theorem decoderStepBeginsOrSkips : Obligations.DecoderStepBeginsOrSkips := by
  refine ⟨fun s dt h c e q idle tracking p1 p2 next queue rise alone => ?_,
    fun s dt h c e e' q idle tracking next queue skip alone => ?_, fun s dt h c e q idle next queue alone => ?_⟩ <;>
    obtain ⟨sameMode, sameP1, sameP2, samePassage, samePhase⟩ := s.advance_head_parts dt h <;>
    rw [execDecoderStep_takes idle next queue alone] <;> rw [← s.advance_line dt] at queue
  · rw [HeadState.step_begins (sameMode.trans tracking) (sameP1.trans p1) (sameP2.trans p2) rise, CoilLine.take_eq queue,
      State.applyStep_silent]
  · have waiting : ¬ (((s.advance dt).head h).taken c (e' :: q)).emptied := by
      cases c <;> simp [HeadState.emptied, HeadState.taken, HeadState.setLine]
    rw [(State.applyStep_skip_tracking queue ((samePhase c).trans skip) (sameMode.trans tracking)).1 (by exact waiting)]
    simp [HeadState.taken]
  · refine ⟨fun p tracking passage near p1 p2 fall => ?_, fun resync fits => ?_, fun resync skip => ?_,
      fun tracking skip empty => ?_⟩
    · rw [HeadState.step_turnsBack (sameMode.trans tracking) (samePassage.trans passage) near (sameP1.trans p1)
        (sameP2.trans p2) fall, State.applyStep_silent, HeadState.taken_setPhase queue]
      rfl
    · obtain ⟨clears, waits, rereads⟩ :=
        State.applyStep_fits_resync queue (fun skip => fits ((samePhase c).symm.trans skip)) (sameMode.trans resync)
      refine ⟨fun clear => congrArg _ (clears clear), fun occupied waiting => congrArg _ (waits occupied ?_),
        fun occupied empty => congrArg _ (rereads occupied ?_)⟩
      · rwa [HeadState.setPhase_emptied]
      · rwa [HeadState.setPhase_emptied]
    · obtain ⟨waits, rereads⟩ :=
        State.applyStep_skip_resync queue ((samePhase c).trans skip) (sameMode.trans resync)
      exact ⟨fun waiting => congrArg _ (waits waiting), fun empty => congrArg _ (rereads empty)⟩
    · exact congrArg _ ((State.applyStep_skip_tracking queue ((samePhase c).trans skip) (sameMode.trans tracking)).2 empty)

/-- Settles O15: the row takes the fall by the far coil, and the crossing is formed from the passage it emits. -/
theorem farCoilEmitsTheCrossing : Obligations.FarCoilEmitsTheCrossing := by
  intro s dt h c e q p r2 t1 t2 sc idle tracking far p1 p2 next queue fall passage second entry exit sited moved alone
  obtain ⟨sameMode, sameP1, sameP2, samePassage, -⟩ := s.advance_head_parts dt h
  rw [execDecoderStep_takes idle next queue alone]
  rw [← s.advance_line dt] at queue
  have apart : r2 - p.firstRise ≠ 0 := fun zero => moved (by simpa [BitVec.sub_eq_iff_eq_add] using zero)
  have formed : (s.advance dt).formCrossing h p = some
      { head := h, dir := p.dir, time := t1 + micros ((t2 - t1).toNat / 2), interval := r2 - p.firstRise
        speed := .present (clamp 0 65535 (roundDiv (sc.coilSpacing * 36000) (r2 - p.firstRise).toNat)) {} } := by
    have sited' : (s.advance dt).site = some sc := sited
    simp only [State.formCrossing, second, entry, exit, State.coilSpeed, sited', if_neg apart, speedOver]
    simp
  rw [HeadState.step_emits (sameMode.trans tracking) (samePassage.trans passage) far (sameP1.trans p1)
    (sameP2.trans p2) fall, CoilLine.take_eq queue]
  simp only [State.applyStep, formed, decoderStepTime, Option.toList_some, HeadState.setPhase_rest, HeadState.setLine_rest]
  simp

end Sys2Proof.Machine

/-!
PROOFS. Chapter 2, first part: timers, session commands, the wake, approach inputs and coil edges.
-/

namespace Sys2Proof.Machine

/-! ## Timer expiries (R26, R28 to R30, R38, R41) -/

/-- A timer that stands and is due has expired once the time has passed. -/
theorem expired_advance {s : State} {dt : Time} {timer : Option Timer} {tm : Timer} (running : timer = some tm)
    (due : reached (s.clock + dt) (tm.start + tm.length) = true) : expired (s.advance dt).clock timer = true := by
  rw [running]; exact due

/-- Settles O22: each row's guard holds, and the branches are the model's own. -/
theorem armAndStandstillExpire : Obligations.ArmAndStandstillExpire := by
  refine ⟨fun s dt tm armed running due => ?_, fun s dt tm inTrain running due => ?_⟩
  · simp only [exec, execArmExpiry]
    rw [if_pos ⟨armed, expired_advance running due⟩]
    simp [State.enterIdle, SessionCtl.stopTimers, State.idleTimer, State.timer, State.constant, State.site, bump]
  · simp only [exec, execStandstillExpiry, State.advance_entryCount, State.advance_exitCount]
    rw [if_pos ⟨inTrain, expired_advance running due⟩]
    exact ⟨fun cleared => by rw [if_pos cleared]; rfl, fun standing => by rw [if_neg standing]; rfl⟩

/-- Settles O23: each row's guard holds; of the entry to STANDBY only heads and accumulators are given by name. -/
theorem otherTimersExpire : Obligations.OtherTimersExpire := by
  refine ⟨fun s dt tm due => ⟨fun clearing running => ?_, fun stopped running => ?_⟩,
    fun s dt tm due => ⟨fun idle running => ?_, fun settling running => ?_⟩⟩
  · simp only [exec, execClearExpiry, State.advance_entryCount]
    rw [if_pos ⟨clearing, expired_advance running due⟩]
    rfl
  · simp only [exec, execAbandonExpiry]
    rw [if_pos ⟨stopped, expired_advance running due⟩]
    rfl
  · refine ⟨(s.advance dt).enterStandby, ?_, rfl, fun h => by cases h <;> rfl, fun i => Vec.map_get ..⟩
    simp only [exec, execIdleExpiry]
    rw [if_pos ⟨idle, expired_advance running due⟩]
  · simp only [exec, execSettleExpiry]
    rw [if_pos ⟨settling, expired_advance running due⟩]
    rfl

/-! ## Session commands (R31, R38, R39) -/

/-- Settles O24: the dispatcher hands each command to its owner, and the owners branch on the session state. -/
theorem sessionCommandsAnswer : Obligations.SessionCommandsAnswer := by
  refine ⟨fun s dt tag rest front room => ?_, fun s dt tag rest room => ⟨fun front => ?_, fun front => ?_⟩⟩
  · have row : exec (.closeTrain dt) s =
        .next (State.serveCloseTrain ⟨tag, [0x08]⟩ { s.advance dt with port.commands := rest }) :=
      congrArg _ (State.serve_advance dt _ front room rfl)
    rw [row]
    exact ⟨fun train => congrArg _ (if_pos train), fun inTrain stopped => congrArg _ (if_neg (not_or.2 ⟨inTrain, stopped⟩))⟩
  · have row : exec (.standby dt) s =
        .next (State.serveStandby ⟨tag, [0x06]⟩ { s.advance dt with port.commands := rest }) :=
      congrArg _ (State.serve_advance dt _ front room rfl)
    rw [row]
    refine ⟨fun state => ?_, fun isOpen => ?_, fun state => ?_, fun state => ?_⟩
    · simp only [State.serveStandby, State.advance_frame, state]; rfl
    · cases state : s.session.state <;> simp [State.sessionOpen, SessionState.isOpen, state] at isOpen <;>
        simp only [State.serveStandby, State.advance_frame, state] <;> rfl
    · simp only [State.serveStandby, State.advance_frame, state]; rfl
    · simp only [State.serveStandby, State.advance_frame, state]; rfl
  · have row : exec (.wake dt) s =
        .next (State.serveWake ⟨tag, [0x07]⟩ { s.advance dt with port.commands := rest }) :=
      congrArg _ (State.serve_advance dt _ front room rfl)
    rw [row]
    refine ⟨fun awake => congrArg _ (if_neg awake), fun asleep => ⟨_, congrArg _ (if_pos asleep), rfl, ?_⟩⟩
    rfl

/-! ## The wake (R19, R39) -/

theorem HeadState.wake_of_recent {hs : HeadState} (recent : ∀ p, hs.passage = some p → p.beforeStandby = false) :
    hs.wake = hs := by
  unfold HeadState.wake
  split
  · next p passage => rw [recent p passage]; rfl
  · rfl

theorem HeadState.wake_of_old {hs : HeadState} {p : Passage} (passage : hs.passage = some p)
    (old : p.beforeStandby = true) :
    hs.wake = ({ hs with passage := none, resync := hs.phase1 || hs.phase2 || hs.resync } : HeadState).settleResync := by
  simp [HeadState.wake, passage, old]

theorem State.wake_head (s : State) (cause : WakeCause) (stamp : Time) (h : Head) :
    (s.wake cause stamp).head h = (s.head h).wake := by
  cases h <;> rfl

/-- Settles O19: the wake's own fields, with a crossing begun before STANDBY told by its mark. -/
theorem wakeDoes : Obligations.WakeDoes := by
  intro s cause stamp
  refine ⟨rfl, rfl, fun k => Vec.map_get .., fun i => ?_, fun h recent => ?_, 
    fun h p passage old => ⟨fun occupied => ⟨fun waiting => ?_, fun q1 q2 => ?_⟩, fun p1 p2 tracking => ?_⟩, rfl, rfl, rfl, rfl, rfl, rfl, rfl, rfl, rfl⟩
  · simp [State.wake, State.emptyBlocks]
  · rw [State.wake_head, HeadState.wake_of_recent recent]
  · rw [State.wake_head, HeadState.wake_of_old passage old, HeadState.settleResync_of_waiting]
    · rcases occupied with p1 | p2 <;> simp [*]
    · rintro ⟨q1, q2⟩
      rcases waiting with w | w
      · exact w q1
      · exact w q2
  · have level : (((s.head h).phase1 || (s.head h).phase2) || (s.head h).resync) = true := by
      rcases occupied with p1 | p2 <;> simp [*]
    rw [State.wake_head, HeadState.wake_of_old passage old, level, HeadState.settleResync_of_emptied rfl (by exact ⟨q1, q2⟩)]
    rfl
  · rw [State.wake_head, HeadState.wake_of_old passage old, HeadState.settleResync_of_tracking] <;> simp [p1, p2, tracking]

/-! ## Approach inputs and coil edges (R22, R25 to R27, R35, R39) -/

/-- Settles O18: the row takes the oldest stamp, and the session state says what becomes of it. -/
theorem coilEdgeIsTaken : Obligations.CoilEdgeIsTaken := by
  intro s dt h c e q queue
  have row : exec (.coilEdge dt h c) s = .next (((s.advance dt).setHead h (((s.advance dt).head h).setLine c
      { (s.head h).line c with toSession := q })).takeCoilEdge e) := by
    have front : (((s.advance dt).head h).line c).toSession = e :: q := by rw [s.advance_line dt]; exact queue
    simp only [exec, execCoilEdge, front]
    rw [s.advance_line dt]
  rw [row]
  refine ⟨fun state => ?_, fun states => ?_, fun state => ?_, fun state => ?_, fun states => ?_⟩
  · simp only [State.takeCoilEdge, State.setHead_frame, State.advance_frame, state]; rfl
  · rcases states with state | state <;>
      simp only [State.takeCoilEdge, State.setHead_frame, State.advance_frame, state] <;> rfl
  · simp only [State.takeCoilEdge, State.setHead_frame, State.advance_frame, state]; rfl
  · simp only [State.takeCoilEdge, State.setHead_frame, State.advance_frame, state]
  · simp only [List.mem_cons, List.not_mem_nil, or_false] at states
    rcases states with state | state | state <;>
      simp only [State.takeCoilEdge, State.setHead_frame, State.advance_frame, state]

theorem State.takeApproach_of_state (s : State) (i : Approach) (t : Time) :
    (s.session.state = .idle → s.takeApproach i t = s.openSession .armed false) ∧
    (s.session.state = .closing → s.takeApproach i t = { s with session.rememberedApproach := true }) ∧
    (s.session.state ∈ [SessionState.notReady, .armed, .inTrain, .stopped, .clearing] → s.takeApproach i t = s) ∧
    (s.session.state = .standby → s.takeApproach i t = (s.wake (wakeCauseOf i) t).openSession .armed false) := by
  unfold State.takeApproach
  cases s.session.state <;> simp

/-- Settles O17: a pin's change sets the input, and a completed qualification is taken by the session state. -/
theorem approachInputsQualify : Obligations.ApproachInputsQualify := by
  refine ⟨fun s dt i lvl moved early => ?_, fun s dt i t since due => ?_⟩
  · have none : (s.advance dt).dueApproach i = none := by
      unfold State.dueApproach
      split
      · next t since => exact if_neg (by simpa [qualifyTime] using early t since)
      · rfl
    simp [exec, execApproachPinChange, none, moved, State.setApproachPin]
  · have complete : (s.advance dt).dueApproach i = some t := by
      simp [State.dueApproach, since, qualifyTime, due]
    have row : exec (.approachEdge dt i) s = .next ((s.advance dt).qualify i t) := by
      simp [exec, execApproachEdge, complete]
    have state (a : ApproachInput) : ((s.advance dt).setApproach i a).session.state = s.session.state := by
      cases i <;> rfl
    rw [row]
    refine ⟨fun low => ?_, fun high => ?_⟩
    · simp [State.qualify, low]
    · obtain ⟨idle, closing, ignored, standby⟩ := State.takeApproach_of_state ((s.advance dt).setApproach i
        { s.session.approach i with qualified := (s.session.approach i).pin, since := none }) i t
      simp only [State.qualify, State.advance_frame, high, if_true] at *
      refine ⟨fun h => congrArg _ (idle ((state _).trans h)), fun h => congrArg _ (closing ((state _).trans h)),
        fun h => congrArg _ (ignored (by rwa [state])), fun h => ?_⟩
      rw [standby ((state _).trans h)]
      cases i <;> rfl

end Sys2Proof.Machine

/-!
PROOFS. Chapter 2, second part: the opening of a session and the crossings taken in it.
-/

namespace Sys2Proof.Machine

/-! ## Channel indices picked out by a predicate (R105) -/

theorem State.findChannel_of_none {s : State} {p : Channel → Bool} (none : ∀ i e, s.channel? i = some e → p e = false) :
    s.findChannel p = .none := by
  refine List.find?_eq_none.2 fun i _ => ?_
  cases valid : s.channel? i with
  | none => simp
  | some e => simp [none i e valid]

theorem State.findChannel_of_unique {s : State} {p : Channel → Bool} {i : ChanIdx} {e : Channel}
    (valid : s.channel? i = some e) (picked : p e = true)
    (unique : ∀ j f, s.channel? j = some f → p f = true → j = i) : s.findChannel p = some i := by
  unfold State.findChannel
  cases found : allChannels.find? _ with
  | none =>
    have missed := List.find?_eq_none.1 found i (List.mem_finRange i)
    simp [valid, picked] at missed
  | some j =>
    have hit := List.find?_some found
    split at hit
    · next f entry => rw [unique j f entry hit]
    · cases hit

/-! ## A session opening (R23) -/

@[simp] theorem State.offerReply_decimation (s : State) (r : Reply) :
    (s.offerReply r).port.decimation = s.port.decimation := by
  unfold State.offerReply; split <;> rfl

@[simp] theorem State.openEndsTransaction_decimation (s : State) :
    s.openEndsTransaction.port.decimation = s.port.decimation := by
  unfold State.openEndsTransaction
  split
  · rfl
  · split <;> simp

@[simp] theorem State.openEndsTransaction_nodes (s : State) : s.openEndsTransaction.node.nodes = s.node.nodes := by
  unfold State.openEndsTransaction
  split
  · rfl
  · split <;> simp

theorem latchSet_eq (ring : List Sample) :
    latchSet ring = (ring.drop (ring.length - 256)).filter fun x => decide (x.raw ≠ 0x7FFF#16 ∧ x.raw ≠ 0x8000#16) := by
  simp [latchSet, clippedRaw]

/-- Settles O16: the opening's own fields, and the latch by the ambient index, its usability and its set. -/
theorem sessionOpens : Obligations.SessionOpens := by
  refine ⟨fun s st b opened => ?_, fun s => ⟨fun missing => ?_, fun i e valid kind unique => ⟨fun bad => ?_, fun good enough => ?_⟩⟩⟩
  · obtain ⟨session, heads, axles, gate⟩ := s.openSession_parts st b
    dsimp only
    rw [session, heads, axles, gate]
    refine ⟨rfl, rfl, rfl, rfl, rfl, rfl, rfl, rfl, rfl, rfl, rfl, rfl, rfl, rfl, rfl, rfl, rfl, ?_⟩
    and_intros <;> simp [State.openSession]
  · have noIndex : s.ambientIndex = none := State.findChannel_of_none fun i e valid => by simpa using missing i e valid
    simp [State.ambientLatch, noIndex]
  all_goals
    have index : s.ambientIndex = some i :=
      State.findChannel_of_unique valid (by simpa using kind) fun j f entry picked => unique j f entry (by simpa using picked)
  · cases usable : s.unusable i with
    | some u => simp [State.ambientLatch, index, State.usable, usable]
    | none =>
      have few := bad.resolve_left fun h => h usable
      rw [← latchSet_eq] at few
      simpa [State.ambientLatch, index, State.usable, usable, valid] using few
  · rw [← latchSet_eq] at enough ⊢
    simpa [State.ambientLatch, index, State.usable, good, valid, sumInt_eq_sum, tempOf] using enough

/-! ## Crossings taken in a session (R13 to R15, R27, R36) -/

/-- The row CROSSING takes the oldest emitted crossing of its head. -/
theorem execCrossing_takes {s : State} {dt : Time} {h : Head} {x : Crossing} {q : List Crossing}
    (front : (s.head h).emitted = x :: q) :
    exec (.crossing dt h) s =
      .next (((s.advance dt).setHead h { (s.advance dt).head h with emitted := q }).takeCrossing x) := by
  have front' : ((s.advance dt).head h).emitted = x :: q := by rw [s.advance_head dt h]; exact front
  simp only [exec, execCrossing, front']

section
variable {s : State} {x : Crossing}

theorem State.takeCrossing_unsited (unsited : x.unsited = true) : s.takeCrossing x = s := by
  simp [State.takeCrossing, unsited]

theorem State.takeCrossing_idle (sited : x.unsited = false) (idle : s.session.state = .idle) :
    s.takeCrossing x = (s.openSession .inTrain true).applyCrossing x := by
  simp [State.takeCrossing, sited, idle]

theorem State.takeCrossing_open (sited : x.unsited = false)
    (running : s.session.state ∈ [SessionState.armed, .inTrain, .stopped, .clearing]) :
    s.takeCrossing x = s.applyCrossing x := by
  simp only [List.mem_cons, List.not_mem_nil, or_false] at running
  rcases running with state | state | state | state <;> simp [State.takeCrossing, sited, state]

theorem State.takeCrossing_closing (sited : x.unsited = false) (closing : s.session.state = .closing) :
    s.takeCrossing x = s.holdCrossing x := by
  simp [State.takeCrossing, sited, closing]

end

/-- The camera does nothing to the Axle Table but write an outcome into the record of the ordinal it is given (R149, R150). -/
theorem State.scheduleCamera_axles (s : State) (k : Nat) (x : Crossing) :
    (s.scheduleCamera k x).axles = s.axles ∨
    ∃ o, (s.scheduleCamera k x).axles = (s.updRecord k fun r => { r with camera := some o }).axles := by
  have written (u : State) (same : u.axles = s.axles) (seq : Half) (o : CameraOutcome) :
      (u.writeCamera seq k o).axles = s.axles ∨
      ∃ o', (u.writeCamera seq k o).axles = (s.updRecord k fun r => { r with camera := some o' }).axles := by
    unfold State.writeCamera
    split
    · exact .inr ⟨o, by simp [same]⟩
    · exact .inl same
  unfold State.scheduleCamera
  split
  · split
    · exact .inl rfl
    · unfold State.placePulse
      split
      · dsimp only
        exact written s rfl _ _
      · split
        · dsimp only [State.startPulse]
          exact written { s with gate.pulse := some ⟨s.clock, s.cameraWidth⟩ } rfl _ _
        · exact .inl rfl
  · exact .inl rfl

section
variable {s : State} {x : Crossing}

/-- A count that rises, on the entry head (R15, R46). -/
theorem State.countCrossing_entryRise (entry : s.session.entryHead = some x.head) (below : (s.head x.head).count < 65535) :
    s.countCrossing x true =
      (s.setCount x.head ((s.head x.head).count + 1)).entryRise ((s.head x.head).count + 1) x := by
  simp [State.countCrossing, maxCount, Nat.not_le.2 below, entry]

/-- A count that rises, on the exit head (R15, R46). -/
theorem State.countCrossing_exitRise (exit : s.session.entryHead ≠ some x.head) (below : (s.head x.head).count < 65535) :
    s.countCrossing x true =
      (s.setCount x.head ((s.head x.head).count + 1)).exitRise ((s.head x.head).count + 1) x := by
  simp [State.countCrossing, maxCount, Nat.not_le.2 below, exit]

theorem State.countCrossing_saturated (full : 65535 ≤ (s.head x.head).count) : s.countCrossing x true = s := by
  simp [State.countCrossing, maxCount, full]

/-- A count that falls, on the entry head (R15, R46). -/
theorem State.countCrossing_entryFall (entry : s.session.entryHead = some x.head) (some : (s.head x.head).count ≠ 0) :
    s.countCrossing x false =
      (s.setCount x.head ((s.head x.head).count - 1)).entryFall (s.head x.head).count := by
  simp [State.countCrossing, some, entry]

/-- A count that falls, on the exit head (R15, R46). -/
theorem State.countCrossing_exitFall (exit : s.session.entryHead ≠ .some x.head) (some : (s.head x.head).count ≠ 0) :
    s.countCrossing x false =
      (s.setCount x.head ((s.head x.head).count - 1)).exitFall (s.head x.head).count := by
  simp [State.countCrossing, some, exit]

theorem State.countCrossing_zero (zero : (s.head x.head).count = 0) : s.countCrossing x false = s.headFault x.head := by
  simp [State.countCrossing, zero]

end

theorem State.headFault_eq (s : State) (h : Head) :
    s.headFault h = (s.setHead h { s.head h with faults := min ((s.head h).faults + 1) 65535 }).raise .n5
      (.head s.session.seq h) := rfl

/-- The first entry of a session creates axle record 1 (R47). -/
theorem State.entryRise_first {s : State} (x : Crossing) (fresh : s.axles.highWater = 0) :
    s.entryRise 1 x = ({ s with
      axles.highWater := 1, axles.records := s.axles.records ++ [newRecord 1 x] } : State).scheduleCamera 1 x := by
  simp [State.entryRise, State.newOrdinal, fresh, axleCapacity]

/-- The first crossing of a session just opened. -/
theorem State.applyCrossing_fresh {s : State} {x : Crossing} (entry : s.session.entryHead = none)
    (zero : (s.head x.head).count = 0) (fresh : s.axles.highWater = 0) :
    s.applyCrossing x =
      ({ ({ (s.fixEntry x).setCount x.head 1 with
        axles.highWater := 1, axles.records := s.axles.records ++ [newRecord 1 x] } : State).scheduleCamera 1 x with
        session.record.lastCrossing := some x.time } : State).enterInTrain := by
  have below : ((s.fixEntry x).head x.head).count < 65535 := by
    rw [show ((s.fixEntry x).head x.head).count = 0 from zero]; omega
  have count : ((s.fixEntry x).head x.head).count + 1 = 1 := by
    rw [show ((s.fixEntry x).head x.head).count = 0 from zero]
  rw [State.applyCrossing_first entry, State.countCrossing_entryRise rfl below, count,
    State.entryRise_first x (by exact fresh)]
  rfl

/-- Settles O20: the opening of O16, then the first crossing of the fresh session; an unsited crossing is only delivered. -/
theorem crossingOpensASession : Obligations.CrossingOpensASession := by
  refine ⟨fun s dt h x q front own sited idle => ?_, fun s dt h x q front unsited => ?_⟩
  · rw [execCrossing_takes front, State.takeCrossing_idle sited (by exact idle)]
    generalize state : (s.advance dt).setHead h { (s.advance dt).head h with emitted := q } = u
    have session : u.session = s.session := by rw [← state]; rfl
    have clock : u.clock = s.clock + dt := by rw [← state]; rfl
    have tables : u.tables = s.tables := by rw [← state]; rfl
    have left : (u.head h).emitted = q := by rw [← state]; simp
    obtain ⟨opened, heads, axles, -⟩ := u.openSession_parts .inTrain true
    have tables' : (u.openSession .inTrain true).tables = s.tables := by simpa using tables
    have clock' : (u.openSession .inTrain true).clock = s.clock + dt := by simpa using clock
    have zero (g : Head) : (u.openSession .inTrain true).head g = { u.head g with count := 0 } := by
      unfold State.head; rw [heads]; cases g <;> rfl
    subst own
    generalize opening : u.openSession .inTrain true = o at *
    have entry : o.session.entryHead = none := by rw [opened]
    refine ⟨_, congrArg _ (State.applyCrossing_fresh entry (by rw [zero]) (by rw [axles])), ?_⟩
    have cleared : o.axles.records = [] ∧ o.axles.mismatch = 0 := by rw [axles]; exact ⟨rfl, rfl⟩
    generalize created : ({ (o.fixEntry x).setCount x.head 1 with
      axles.highWater := 1, axles.records := o.axles.records ++ [newRecord 1 x] } : State) = w
    have record : w.axles.records = [newRecord 1 x] ∧ w.axles.highWater = 1 ∧ w.axles.mismatch = 0 := by
      rw [← created]; simp [cleared, State.setCount, State.fixEntry]
    have counted (g : Head) : w.head g = if g = x.head then { o.head g with count := 1 } else o.head g := by
      rw [← created]; cases g <;> cases x.head <;> rfl
    have same : w.session = (o.fixEntry x).session ∧ w.clock = s.clock + dt ∧ w.tables = s.tables := by
      rw [← created]; exact ⟨rfl, clock', tables'⟩
    obtain ⟨sameSession, sameClock, sameTables⟩ := same
    have started : (State.enterInTrain { w.scheduleCamera 1 x with
        session.record.lastCrossing := some x.time }).session.standstill =
        some ⟨s.clock + dt, seconds (s.constant (·.standstill) 10)⟩ := by
      simp [State.enterInTrain, State.standstillTimer, State.timer, State.constant, State.site, sameClock, sameTables]
    have head (g : Head) : State.head (State.enterInTrain { w.scheduleCamera 1 x with
        session.record.lastCrossing := some x.time }) g = w.head g :=
      State.head_eq (State.scheduleCamera_frame w 1 x).2.1 g
    have other : otherHead x.head ≠ x.head := by cases x.head <;> simp [otherHead]
    refine ⟨rfl, ?_, ?_, ?_, ?_, ?_, rfl, started, rfl, ?_, ?_, ?_, ?_⟩
    · simp [State.enterInTrain, SessionCtl.stopTimers, sameSession, State.fixEntry, opened, session]
    · simp [State.enterInTrain, SessionCtl.stopTimers, sameSession, State.fixEntry]
    · simp [State.enterInTrain, SessionCtl.stopTimers, sameSession, State.fixEntry, opened]
    · simp only [State.enterInTrain, SessionCtl.stopTimers, State.scheduleCamera_frame, sameSession, State.fixEntry]
      cases x.head <;> rfl
    · simp [State.enterInTrain, SessionCtl.stopTimers, sameSession, State.fixEntry]
    · rw [head, counted, if_pos rfl]
    · rw [head, counted, if_neg other, zero]
    · rw [head, counted, if_pos rfl, zero]; exact left
    · rw [show (State.enterInTrain { w.scheduleCamera 1 x with session.record.lastCrossing := some x.time }).axles =
        (w.scheduleCamera 1 x).axles from rfl]
      obtain ⟨records, highWater, mismatch⟩ := record
      rcases w.scheduleCamera_axles 1 x with same | ⟨outcome, same⟩ <;> rw [same] <;>
        simp [records, highWater, mismatch, newRecord]
  · rw [execCrossing_takes front, State.takeCrossing_unsited unsited]

end Sys2Proof.Machine

/-!
PROOFS. Chapter 2, third part: a crossing applied to an open session, or held while the session closes.
-/

namespace Sys2Proof.Machine

/-- What applying a crossing leaves behind: IN_TRAIN with the standstill timer started again, the other session timers
stopped, and the crossing as the last one (R26 to R28, R32). -/
theorem State.finish_eq {s y u : State} (x : Crossing) (clock : y.clock = u.clock) (tables : y.tables = s.tables) :
    State.enterInTrain { y with session.record.lastCrossing := some x.time } =
      { y with session := { y.session with
        state := .inTrain, standstill := some ⟨u.clock, seconds (s.constant (·.standstill) 10)⟩
        arm := none, clear := none, abandon := none, idle := none
        record := { y.session.record with lastCrossing := some x.time } } } := by
  simp [State.enterInTrain, SessionCtl.stopTimers, State.standstillTimer, State.timer, State.constant, State.site, clock, tables]

/-- A count within 16 bits that rises up to its bound. -/
theorem count_capped {n : Nat} (within : n ≤ 65535) : (if maxCount ≤ n then n else n + 1) = min (n + 1) 65535 := by
  have bound : maxCount = 65535 := rfl
  split <;> omega

/-- The heads after a later crossing are those after it is counted. -/
theorem State.applyCrossing_later_heads {s : State} {g : Head} (entry : s.session.entryHead = some g) (x : Crossing) :
    let w := decide (s.session.record.direction = some x.dir)
    (s.applyCrossing x).heads = ((if w then s else s.noteReversal x).countCrossing x w).heads := by
  rw [State.applyCrossing_later entry]
  dsimp only
  split <;> rfl

theorem State.noteReversal_heads (s : State) (x : Crossing) : (s.noteReversal x).heads = s.heads := by
  simp

/-- The head of a later crossing, counted (R7, R15). -/
theorem State.applyCrossing_later_head {s : State} {g : Head} {d : Direction} (entry : s.session.entryHead = some g)
    (dir : s.session.record.direction = some d) (x : Crossing) :
    (s.applyCrossing x).head x.head = { s.head x.head with
      count := if x.dir = d then
          (if maxCount ≤ (s.head x.head).count then (s.head x.head).count else (s.head x.head).count + 1)
        else (s.head x.head).count - 1
      faults := if x.dir ≠ d ∧ (s.head x.head).count = 0 then min ((s.head x.head).faults + 1) 65535
        else (s.head x.head).faults } ∧
    (s.applyCrossing x).head (otherHead x.head) = s.head (otherHead x.head) := by
  have other : otherHead x.head ≠ x.head := by cases x.head <;> simp [otherHead]
  have heads := State.applyCrossing_later_heads entry x
  have same (h : Head) : (s.noteReversal x).head h = s.head h := State.head_eq (s.noteReversal_heads x) h
  by_cases forward : x.dir = d
  · simp only [dir, forward, decide_true, if_true] at heads
    refine ⟨?_, ?_⟩
    · rw [State.head_eq heads, State.countCrossing_head]
      simp [forward]
    · rw [State.head_eq heads, State.countCrossing_other _ _ _ other]
  · have against : decide (s.session.record.direction = some x.dir) = false := by
      simpa [dir] using fun h => forward h.symm
    simp only [against, Bool.false_eq_true, if_false] at heads
    refine ⟨?_, ?_⟩
    · rw [State.head_eq heads, State.countCrossing_head, same]
      simp [forward, bump]
    · rw [State.head_eq heads, State.countCrossing_other _ _ _ other, same]

/-- The exit pulse after a later crossing (R147). -/
theorem State.applyCrossing_later_exitPulse {s : State} {g : Head} {d : Direction} (entry : s.session.entryHead = some g)
    (dir : s.session.record.direction = some d) (x : Crossing) :
    (s.applyCrossing x).gate.exitPulse = if x.dir = d ∧ x.head ≠ g then some s.clock else s.gate.exitPulse := by
  have kept (u : State) : u.enterInTrain.gate = u.gate := rfl
  rw [State.applyCrossing_later entry]
  dsimp only
  rw [kept]
  by_cases forward : x.dir = d <;> by_cases exit : x.head = g <;>
    simp [dir, forward, exit, Ne.symm, eq_comm, State.requestExitPulse, State.countCrossing_exitPulse]

/-- A later crossing with the session (R14, R15, R147). -/
theorem State.applyCrossing_forward {s : State} {g : Head} {x : Crossing} (entry : s.session.entryHead = some g)
    (dir : s.session.record.direction = some x.dir) :
    s.applyCrossing x = State.enterInTrain { (if g = x.head then s.countCrossing x true
      else { s.countCrossing x true with gate.exitPulse := some s.clock }) with session.record.lastCrossing := some x.time } := by
  rw [State.applyCrossing_later entry]
  simp only [dir, decide_true, if_true, Bool.true_and]
  by_cases exit : g = x.head
  · simp [exit]
  · simp [exit, State.requestExitPulse]

/-- A later crossing against the session (R14, R15). -/
theorem State.applyCrossing_against {s : State} {g : Head} {x : Crossing} (entry : s.session.entryHead = some g)
    (dir : s.session.record.direction ≠ some x.dir) :
    s.applyCrossing x = State.enterInTrain { (s.noteReversal x).countCrossing x false with
      session.record.lastCrossing := some x.time } := by
  rw [State.applyCrossing_later entry]
  simp [dir]

/-- Settles O21: a later crossing by `applyCrossing_later`, a first one by `applyCrossing_first`, each with the count change
of its case; one taken in CLOSING by `holdCrossing`. -/
theorem crossingChangesItsCount : Obligations.CrossingChangesItsCount := by
  refine ⟨fun s dt h g d x q front own sited running entry dir within => ?_,
    fun s dt h x q front own sited running => ?_, fun s dt h x q front own sited closing => ?_⟩
  · rw [execCrossing_takes front, State.takeCrossing_open sited (by exact running)]
    generalize state : (s.advance dt).setHead h { (s.advance dt).head h with emitted := q } = u
    have entry' : u.session.entryHead = some g := by rw [← state]; exact entry
    have dir' : u.session.record.direction = some d := by rw [← state]; exact dir
    have head : u.head h = { s.head h with busy := (s.head h).busy - dt.toNat, emitted := q } := by rw [← state]; simp
    have other : (u.head (otherHead h)).count = (s.head (otherHead h)).count := by rw [← state]; cases h <;> rfl
    subst own
    obtain ⟨own, others⟩ := State.applyCrossing_later_head entry' dir' x
    have session := State.applyCrossing_later_session entry' x
    have pulse := State.applyCrossing_later_exitPulse entry' dir' x
    have kept : u.session = s.session ∧ u.gate = s.gate ∧ u.clock = s.clock + dt ∧ u.tables = s.tables := by
      rw [← state]; exact ⟨rfl, rfl, rfl, rfl⟩
    obtain ⟨keptSession, keptGate, keptClock, keptTables⟩ := kept
    refine ⟨_, rfl, ?_, ?_, ?_, ?_, ?_, ?_, ?_, ?_, ?_, ?_, ?_, ?_⟩
    · rw [own, head]
      exact if_congr Iff.rfl (count_capped within) rfl
    · rw [others, other]
    · rw [own, head]
    · rw [own, head]
    · rw [session]
    · rw [session]; exact entry'
    · rw [session]
      simp [State.standstillTimer, State.timer, State.constant, State.site, keptClock, keptTables]
    · rw [session]; exact dir'
    · rw [session]
    · rw [session, keptSession]; rfl
    · rw [session, keptSession]
      simp only [dir, Bool.or_eq_true, decide_eq_true_eq, ne_eq, Option.some.injEq, eq_comm (a := d)]
    · rw [pulse, keptGate, keptClock]
  · rw [execCrossing_takes front, State.takeCrossing_open sited (by exact running)]
    intro u n counted finished
    subst own
    have headCount : (u.head x.head).count = n := by simp [u, n]
    have finish {y : State} (clock : y.clock = u.clock) (tables : y.tables = u.tables) :
        State.enterInTrain { y with session.record.lastCrossing := some x.time } = finished y :=
      State.finish_eq x clock (tables.trans rfl)
    refine ⟨fun g d entry dir => ?_, fun entry => ?_⟩
    · intro w
      have exits (other : x.head ≠ g) : u.session.entryHead ≠ some x.head := fun h =>
        other (Option.some.inj (entry.symm.trans h)).symm
      have forward (same : x.dir = d) := State.applyCrossing_forward (s := u) entry (same ▸ dir)
      have against (other : x.dir ≠ d) := State.applyCrossing_against (s := u) entry fun h =>
        other (Option.some.inj (dir.symm.trans h)).symm
      have noted (other : x.dir ≠ d) : u.noteReversal x = w := by
        simp only [w, State.noteReversal, other, false_or]; rfl
      have parts (other : x.dir ≠ d) : w.session.entryHead = some g ∧ w.session.seq = s.session.seq ∧
          (w.head x.head).count = n ∧ w.clock = u.clock ∧ w.tables = u.tables := by
        rw [← noted other]
        refine ⟨by rw [State.noteReversal_session]; exact entry, by rw [State.noteReversal_session]; rfl, ?_, by simp, by simp⟩
        rw [State.head_eq (u.noteReversal_heads x)]; exact headCount
      refine ⟨fun same below enters => ?_, fun same below leaves => ?_, fun same full => ?_, fun other some enters => ?_,
        fun other some leaves => ?_, fun other zero => ?_⟩
      · rw [forward same, if_pos enters.symm, State.countCrossing_entryRise (enters ▸ entry) (headCount ▸ below),
          finish (by simp) (by simp), headCount]
        rfl
      · rw [forward same, if_neg (Ne.symm leaves), State.countCrossing_exitRise (exits leaves) (headCount ▸ below),
          finish (by simp) (by simp), headCount]
        rfl
      · rw [forward same, State.countCrossing_saturated (headCount ▸ full)]
        by_cases enters : x.head = g
        · rw [if_pos enters, if_pos enters.symm]; exact congrArg _ (finish rfl rfl)
        · rw [if_neg enters, if_neg (Ne.symm enters)]; exact congrArg _ (finish rfl rfl)
      · obtain ⟨entry', -, count, clock, tables⟩ := parts other
        rw [against other, noted other, State.countCrossing_entryFall (enters ▸ entry') (count ▸ some),
          finish (by simp [clock]) (by simp [tables]), count]
        rfl
      · obtain ⟨entry', -, count, clock, tables⟩ := parts other
        have exit : w.session.entryHead ≠ .some x.head := fun h => leaves (Option.some.inj (entry'.symm.trans h)).symm
        rw [against other, noted other, State.countCrossing_exitFall exit (count ▸ some), finish (by simp [clock]) (by simp [tables]), count]
        rfl
      · obtain ⟨-, seq, count, clock, tables⟩ := parts other
        rw [against other, noted other, State.countCrossing_zero (count.trans zero),
          finish (by simp [clock]) (by simp [tables]), State.headFault_eq, seq]
    · intro dir fixed
      have fixes : u.fixEntry x = fixed := by
        have entryDir : entryDirection x.head = dir := by simp only [dir]; cases x.head <;> rfl
        simp only [State.fixEntry, entryDir]; rfl
      have count : (fixed.head x.head).count = n := headCount
      refine ⟨fun below => ?_, fun full => ?_⟩
      · rw [State.applyCrossing_first (s := u) entry, fixes, State.countCrossing_entryRise rfl (count ▸ below),
          finish (by simp; rfl) (by simp; rfl), count]
        rfl
      · rw [State.applyCrossing_first (s := u) entry, fixes, State.countCrossing_saturated (count ▸ full)]
        exact congrArg _ (finish rfl rfl)
  · rw [execCrossing_takes front, State.takeCrossing_closing sited (by exact closing)]
    subst own
    refine ⟨fun room => ?_, fun full => ?_⟩
    · exact congrArg _ (if_pos room)
    · refine congrArg _ ((if_neg (Nat.not_lt.2 full)).trans ?_)
      rw [State.headFault_eq]
      cases x.head <;> rfl

end Sys2Proof.Machine

/-!
PROOFS. Chapter 3, the Axle Table: rises of the entry and of the exit count, the start of a measurement, speed tests and
spacing.
-/

namespace Sys2Proof.Machine

/-! ## A rise of the entry count (R47, R51, R57) -/

/-- Settles O25: a new ordinal within or above the capacity, or an old one with or without its record. -/
theorem entryRises : Obligations.EntryRises := by
  intro s k x
  refine ⟨fun new within => ?_, fun new above => ⟨fun truncated => ?_, fun complete => ?_⟩, fun sound old above => ?_,
    fun r old found before => ?_, fun r old found elsewhere => ?_⟩
  · simp only [State.entryRise, if_pos new, State.newOrdinal, axleCapacity, if_pos within]
    rfl
  · simp [State.entryRise, new, State.newOrdinal, axleCapacity, Nat.not_le.2 above, truncated]
  · simp [State.entryRise, new, State.newOrdinal, axleCapacity, Nat.not_le.2 above, complete]
  · simp [State.entryRise, Nat.not_lt.2 old, sound.record?_above_capacity above]
  · simp [State.entryRise, Nat.not_lt.2 old, found, before]
  · simp only [State.entryRise, if_neg (Nat.not_lt.2 old), found, if_neg elsewhere]
    rfl

/-! ## Records after an update -/

theorem State.record?_ordinal {s : State} {k : Nat} {r : AxleRecord} (found : s.record? k = some r) : r.ordinal = k := by
  simpa using List.find?_some found

/-- An update that keeps ordinals changes the record it is for, and no other. -/
theorem State.record?_updRecord (s : State) (k j : Nat) {f : AxleRecord → AxleRecord}
    (kept : ∀ r, r.ordinal = k → (f r).ordinal = k) :
    (s.updRecord k f).record? j = if j = k then (s.record? k).map f else s.record? j := by
  have search (l : List AxleRecord) :
      (l.map fun r => if r.ordinal = k then f r else r).find? (·.ordinal == j) =
        if j = k then (l.find? (·.ordinal == k)).map f else l.find? (·.ordinal == j) := by
    induction l with
    | nil => simp
    | cons r l ih =>
      by_cases own : r.ordinal = k
      · by_cases same : j = k
        · subst same
          simp [own, kept r own]
        · simp only [List.map_cons, if_pos own]
          rw [List.find?_cons_of_neg (by simpa [kept r own] using Ne.symm same), ih, if_neg same, if_neg same,
            List.find?_cons_of_neg (by simpa [own] using Ne.symm same)]
      · simp only [List.map_cons, if_neg own, List.find?_cons, ih]
        by_cases same : j = k
        · subst same
          have miss : (r.ordinal == j) = false := by simpa using own
          simp [miss]
        · simp only [if_neg same]
  exact search s.axles.records

/-! ## Speed, tests and spacing (R16 to R18) -/

theorem AxleRecord.usableDt_of_exited {r : AxleRecord} {t : Time} (exited : r.exitTime = some t) :
    r.usableDt = if r.headDisagree || r.stopFlag then none else some (t - r.entryTime).toNat := by
  simp [AxleRecord.usableDt, exited]

/-- Settles O29: the tests by their definitions, the spacing by the usability of the two records. -/
theorem speedTestsAndSpacing : Obligations.SpeedTestsAndSpacing := by
  refine ⟨fun v e x m1 m2 r q => ⟨?_, rfl, ?_, ?_, rfl, ?_⟩, fun sc p r tp tr exitedP exitedR => ?_⟩
  · simp [disagrees]
  · cases q <;> rfl
  · simp [isUnsteady]
  · cases q <;> rfl
  · intro gap usable c
    have basis (other : ¬ (usable p ∧ usable r)) : spacingOf (some sc) p r = if c = 0 then .absent .headDisagree
        else .present (spacingValue gap sc.coilSpacing c) { coilBased := true } := by
      simp only [spacingOf, AxleRecord.usableDt_of_exited exitedP, AxleRecord.usableDt_of_exited exitedR]
      split
      · next d1 d2 first second =>
        refine absurd ⟨?_, ?_⟩ other
        · simpa [usable] using (Option.ite_none_left_eq_some.1 first).1
        · simpa [usable] using (Option.ite_none_left_eq_some.1 second).1
      · rfl
    refine ⟨fun usableP usableR => ?_, fun other some => ?_, fun other none => ?_⟩
    · simp only [spacingOf, AxleRecord.usableDt_of_exited exitedP, AxleRecord.usableDt_of_exited exitedR, usableP.1,
        usableP.2, usableR.1, usableR.2]
      rfl
    · rw [basis other, if_neg some]; rfl
    · rw [basis other, if_pos none]

/-! ## A rise of the exit count (R49, R53) -/

section
variable {s : State} {k : Nat} {r : AxleRecord} (x : Crossing)

theorem State.exitRise_beyondEntry (beyond : s.entryCount < k) : s.exitRise k x = s.countMismatch := if_pos beyond

theorem State.exitRise_of_no_record (within : k ≤ s.entryCount) (missing : s.record? k = none) : s.exitRise k x = s := by
  simp [State.exitRise, Nat.not_lt.2 within, missing]

theorem State.exitRise_elsewhere (within : k ≤ s.entryCount) (found : s.record? k = some r)
    (elsewhere : r.position ≠ .between) : s.exitRise k x = s.countMismatch := by
  simp [State.exitRise, Nat.not_lt.2 within, found, elsewhere]

theorem State.exitRise_later (within : k ≤ s.entryCount) (found : s.record? k = some r) (between : r.position = .between)
    (later : r.status ≠ .none) : s.exitRise k x = s.updRecord k fun r => { r with position := .beyondExit } := by
  simp [State.exitRise, Nat.not_lt.2 within, found, between, later]

theorem State.exitRise_first (within : k ≤ s.entryCount) (found : s.record? k = some r) (between : r.position = .between)
    (first : r.status = .none) : s.exitRise k x = s.startMeasurement r x := by
  simp [State.exitRise, Nat.not_lt.2 within, found, between, first]

end

/-- The record as a measurement start leaves it (R53, steps 1 to 4). -/
def State.exitedRecord (s : State) (r : AxleRecord) (x : Crossing) : AxleRecord :=
  let exited := r.exit s.site (decide (r.ordinal ∈ s.axles.overdue)) x
  match s.record? (r.ordinal - 1) with
  | some p => if r.ordinal = 1 then exited else { exited with spacing := spacingOf s.site p exited }
  | none => exited

/-- A measurement start writes the record, begins both parts and tells segmentation (R53). -/
theorem State.startMeasurement_eq {s : State} {sc : SiteConstants} (sited : s.site = some sc) (r : AxleRecord) (x : Crossing) :
    let a := (s.exitedRecord r x).data x.time (s.session.record.direction.getD .forward) s.clock
    s.startMeasurement r x = { s with
      axles := { (s.updRecord r.ordinal fun _ => s.exitedRecord r x).axles with inFlight := s.axles.inFlight + 1 }
      load.parts := s.load.parts ++ [s.newLoadPart sc a]
      thermal.parts := s.thermal.parts ++ [s.newBearingPart sc a]
      group.notices := s.group.notices + 1 } := by
  intro a
  have parts (u : State) (same : u.site = some sc) : u.beginParts a = { u with
      load.parts := u.load.parts ++ [u.newLoadPart sc a], thermal.parts := u.thermal.parts ++ [u.newBearingPart sc a] } := by
    simp [State.beginParts, same]
  have begun := parts { s.updRecord r.ordinal fun _ => s.exitedRecord r x with axles.inFlight := s.axles.inFlight + 1 } sited
  have start : s.startMeasurement r x = { (State.beginParts { s.updRecord r.ordinal fun _ => s.exitedRecord r x with
      axles.inFlight := s.axles.inFlight + 1 } a) with group.notices := (State.beginParts { s.updRecord r.ordinal fun _ =>
        s.exitedRecord r x with axles.inFlight := s.axles.inFlight + 1 } a).group.notices + 1 } := rfl
  rw [start, begun]
  rfl

/-- The fields of an exited record but for its spacing are those of R53's steps 1 and 2. -/
theorem State.exitedRecord_eq (s : State) (r : AxleRecord) (x : Crossing) :
    s.exitedRecord r x = { r.exit s.site (decide (r.ordinal ∈ s.axles.overdue)) x with
      spacing := (s.exitedRecord r x).spacing } := by
  unfold State.exitedRecord
  split
  · split <;> rfl
  · rfl

theorem axleSpeed_of_sited (sc : SiteConstants) (overdue : Prop) [Decidable overdue] (later earlier : Time) :
    axleSpeed (some sc) (decide overdue) (later - earlier) =
      if later = earlier ∨ overdue then .absent .headDisagree
      else .present (clamp 0 65535 (roundDiv (sc.lab * 36000) (later - earlier).toNat)) {} := by
  have zero : later - earlier = 0#32 ↔ later = earlier := by
    rw [BitVec.sub_eq_iff_eq_add, BitVec.zero_add]
  simp [axleSpeed, speedOver, zero]

/-- Settles O28: a first exit by `startMeasurement_eq`, every other rise by its branch. -/
theorem exitRises : Obligations.ExitRises := by
  intro s k x
  refine ⟨fun beyond => State.exitRise_beyondEntry x beyond,
    fun sound within above => State.exitRise_of_no_record x within (sound.record?_above_capacity above),
    fun r within found between later => State.exitRise_later x within found between later,
    fun r within found elsewhere => State.exitRise_elsewhere x within found elsewhere,
    fun r sc sound within found between first sited => ?_⟩
  intro t
  have started : t = _ := (State.exitRise_first x within found between first).trans (State.startMeasurement_eq sited r x)
  have ordinal : r.ordinal = k := State.record?_ordinal found
  have form := s.exitedRecord_eq r x
  have kept : (s.exitedRecord r x).ordinal = k := by rw [form]; exact ordinal
  have records (j : Nat) : t.record? j = if j = k then some (s.exitedRecord r x) else s.record? j := by
    have search : t.record? j = (s.updRecord k fun _ => s.exitedRecord r x).record? j := by
      rw [started, ordinal]; rfl
    rw [search, s.record?_updRecord k j fun _ _ => kept, found]
    rfl
  refine ⟨⟨s.exitedRecord r x, by rw [records, if_pos rfl], ?_⟩, fun j other => by rw [records, if_neg other],
    by rw [started], by rw [started]; simp, by rw [started]; simp, by rw [started], by rw [started], by rw [started]⟩
  have speed : (s.exitedRecord r x).speed = _ :=
    (congrArg AxleRecord.speed form).trans (sited ▸ axleSpeed_of_sited sc (r.ordinal ∈ s.axles.overdue) x.time r.entryTime)
  refine ⟨by rw [form]; rfl, by rw [form]; rfl, by rw [form]; rfl, by rw [form]; rfl, by rw [form]; rfl, by rw [form]; rfl,
    by rw [form]; rfl, by rw [form]; rfl, by rw [form]; rfl, ordinal ▸ speed, by rw [form]; rfl, by rw [form]; rfl,
    fun one => ?_, fun p notOne before => ?_, fun d dir => ?_⟩
  · have firstOrdinal : r.ordinal = 1 := ordinal.trans one
    unfold State.exitedRecord
    dsimp only
    split
    · rw [if_pos firstOrdinal]; rfl
    · rfl
  · unfold State.exitedRecord
    simp only [ordinal, before, if_neg notOne, sited]
    rfl
  · intro a
    have entry : (s.exitedRecord r x).entryTime = r.entryTime := by rw [form]; rfl
    have stop : (s.exitedRecord r x).stopFlag = r.stopFlag := by rw [form]; rfl
    have data : (s.exitedRecord r x).data x.time (s.session.record.direction.getD .forward) s.clock = a := by
      simp only [AxleRecord.data, kept, entry, stop, dir, Option.getD_some, a]
    rw [started, data]
    exact ⟨rfl, rfl⟩

end Sys2Proof.Machine

/-!
PROOFS. Chapter 3, second part: overdue records, READ AXLE, and the byte layout of a record by its fields (R179).
-/

namespace Sys2Proof.Machine

/-! ## Lengths of the fields a record is made of (R179) -/

@[simp] theorem le1_length (n : Nat) : (le1 n).length = 1 := by simp [le1]

@[simp] theorem le2_length (n : Nat) : (le2 n).length = 2 := by simp [le2]

@[simp] theorem le4_length (n : Nat) : (le4 n).length = 4 := by simp [le4]

@[simp] theorem leHalf_length (h : Half) : (leHalf h).length = 2 := by simp [leHalf]

@[simp] theorem leTime_length (t : Time) : (leTime t).length = 4 := by simp [leTime]

@[simp] theorem timeOrZero_length (t : Option Time) : (timeOrZero t).length = 4 := by simp [timeOrZero]

@[simp] theorem Quantity.bytes_length (q : Quantity) : q.bytes.length = 4 := by
  cases q <;> simp [Quantity.bytes, leInt]

@[simp] theorem fillTo_length (n : Nat) (l : List Byte) : (fillTo n l).length = n := by simp [fillTo]

@[simp] theorem kindCodes_length (n : Nat) (l : List AlertKind) : (kindCodes n l).length = n := fillTo_length n _

/-- A list that fits is filled up with zeros. -/
theorem fillTo_of_le {n : Nat} {l : List Byte} (fits : l.length ≤ n) :
    fillTo n l = l ++ List.replicate (n - l.length) 0 := by
  simp [fillTo, List.take_append, List.take_of_length_le fits]

theorem kindCodes_of_le {n : Nat} {l : List AlertKind} (fits : l.length ≤ n) :
    kindCodes n l = (l.map fun k => BitVec.ofNat 8 k.code) ++ List.replicate (n - l.length) 0 := by
  have codes : (l.flatMap fun k => le1 k.code) = l.map fun k => BitVec.ofNat 8 k.code :=
    List.map_eq_flatMap.symm
  rw [kindCodes, codes, fillTo_of_le (by simpa using fits)]
  simp

/-- Dropping a whole chunk, and more. -/
theorem drop_chunk {α : Type} {l m : List α} {o : Nat} (past : l.length ≤ o) : (l ++ m).drop o = m.drop (o - l.length) := by
  rw [List.drop_append, List.drop_eq_nil_of_le past, List.nil_append]

/-- Taking a whole chunk, and more. -/
theorem take_chunk {α : Type} {l m : List α} {n : Nat} (past : l.length ≤ n) : (l ++ m).take n = l ++ m.take (n - l.length) := by
  rw [List.take_append, List.take_of_length_le past]

theorem le2_eq_number (v : Nat) : (List.range 2).map (fun i => BitVec.ofNat 8 (v / 256 ^ i)) = le2 v := by
  simp [le2, List.range_succ]

theorem le4_eq_number (v : Nat) : (List.range 4).map (fun i => BitVec.ofNat 8 (v / 256 ^ i)) = le4 v := by
  simp [le4, le2, List.range_succ, Nat.div_div_eq_div_mul]

/-! ## Overdue records and READ AXLE (R53, R60) -/

theorem execReadAxle_serves {s : State} (dt : Time) {tag lo hi : Byte} {rest : List Command}
    (front : s.port.commands = ⟨tag, [0x09, lo, hi]⟩ :: rest) (room : s.replyRoom = true) :
    exec (.readAxle dt) s =
      .next (State.serveReadAxle ⟨tag, [0x09, lo, hi]⟩ { s.advance dt with port.commands := rest }) :=
  congrArg _ (State.serve_advance dt _ front room rfl)

/-- Settles O30: the guard of AXLE_OVERDUE, the three answers of READ AXLE, and the record's bytes chunk by chunk. -/
theorem overdueAndReadAxle : Obligations.OverdueAndReadAxle := by
  refine ⟨fun s dt k r found none due new => ?_, fun s dt tag lo hi rest front room => ?_, fun r => ?_⟩
  · have found' : (s.advance dt).record? k = some r := found
    simp only [exec, execAxleOverdue, found']
    rw [if_pos ⟨none, due, new⟩]
    rfl
  · intro u k
    rw [execReadAxle_serves dt front room]
    have ordinal : u16 (Command.args ⟨tag, [0x09, lo, hi]⟩) 0 = k := u16_cons lo hi []
    refine ⟨fun outside => ⟨Config.freeIndex s.freeCount, ?_⟩, fun r low high found => ?_, fun low high missing => ?_⟩
    · simp only [State.serveReadAxle, ordinal, axleCapacity, if_pos outside]
      rfl
    · have inside : ¬ (k = 0 ∨ 1024 < k) := by omega
      have found' : State.record? { s.advance dt with port.commands := rest } k = some r := found
      simp only [State.serveReadAxle, ordinal, axleCapacity, if_neg inside, found']
      rfl
    · have inside : ¬ (k = 0 ∨ 1024 < k) := by omega
      have missing' : State.record? { s.advance dt with port.commands := rest } k = .none := missing
      simp only [State.serveReadAxle, ordinal, axleCapacity, if_neg inside, missing']
      rfl
  · intro field number flag quantity
    have two (v : Nat) : number 2 v = le2 v := le2_eq_number v
    have four (v : Nat) : number 4 v = le4 v := le4_eq_number v
    have scaled (b : Bool) (v : Nat) : flag b v = v * (if b = true then 1 else 0) := by simp [flag]
    have quantities (q : Quantity) : quantity q = q.bytes := by
      cases q with
      | unformed => rfl
      | absent a => cases a <;> rfl
      | present v m =>
        have marks : flag m.fewBays 1 + flag m.unsteady 2 + flag m.drift 4 + flag m.peakClipped 8 +
            flag m.coilBased 32 = m.byte := by
          simp only [Marks.byte, bits, scaled, Bool.false_eq_true, if_false]
          omega
        simp only [quantity, two, marks]
        rfl
    have flags : flag r.stopFlag 1 + flag r.headDisagree 2 + flag r.unsteady 4 + flag r.exitTime.isSome 8 =
        bits [r.stopFlag, r.headDisagree, r.unsteady, r.exitTime.isSome] := by
      simp only [bits, scaled]
      omega
    simp only [field, two, four, quantities, flags]
    unfold AxleRecord.bytes
    refine ⟨by simp, ?_, ?_, ?_, ?_, ?_, ?_, ?_, fun few => ?_, ?_, fun rail => ?_, ?_⟩
    · simp
    · simp [take_chunk]
      cases r.position <;> rfl
    · simp [drop_chunk, take_chunk]
      cases r.status <;> rfl
    · simp [drop_chunk, take_chunk]
      rcases r.camera with _ | c
      · rfl
      · cases c <;> rfl
    · simp [drop_chunk, take_chunk]
      rfl
    · simp [drop_chunk, take_chunk]
    · simp [drop_chunk]
    · rw [← kindCodes_of_le few]
      simp [drop_chunk]
    · simp [drop_chunk, take_chunk]
      rfl
    · cases rail <;> simp [drop_chunk, take_chunk, PerRail.get]
    · simp [drop_chunk, take_chunk]

end Sys2Proof.Machine

/-!
PROOFS. Chapter 4, first part: time marks and the downstream line, identification, polling, discards and silence.
-/

namespace Sys2Proof.Machine

/-! ## The first node of a kind (R68) -/

/-- The first address with a property, from its own and the absence of the property below it. -/
theorem find?_allNodes {p : NodeAddr → Bool} {k : NodeAddr} (own : p k = true) (below : ∀ j, j < k → p j = false) :
    allNodes.find? p = some k := by
  have order : allNodes = List.finRange 6 := by decide
  rw [order, List.find?_eq_some_iff_getElem]
  refine ⟨own, k.val, by simp, by simp, fun j before => ?_⟩
  simpa using below ⟨j, by omega⟩ before

theorem find?_allNodes_none {p : NodeAddr → Bool} (absent : ∀ j, p j = false) : allNodes.find? p = none := by
  simp [List.find?_eq_none, absent]

theorem State.nextStatus_eq_none {s : State}
    (quiet : ∀ j : NodeAddr, s.node.nodes[j].requesting = false ∧ s.node.nodes[j].owed = false) : s.nextStatus = none :=
  find?_allNodes_none fun j => by rw [(quiet j).1, (quiet j).2]; rfl

theorem State.nextStatus_eq {s : State} {k : NodeAddr}
    (own : s.node.nodes[k].requesting = true ∨ s.node.nodes[k].owed = true)
    (below : ∀ j : NodeAddr, j < k → s.node.nodes[j].requesting = false ∧ s.node.nodes[j].owed = false) :
    s.nextStatus = some k :=
  find?_allNodes (by simpa using own) fun j before => by rw [(below j before).1, (below j before).2]; rfl

theorem State.nextIdent_eq_none {s : State} (quiet : ∀ j : NodeAddr, s.node.nodes[j].identPending = false) :
    s.nextIdent = none := find?_allNodes_none quiet

theorem State.nextIdent_eq {s : State} {k : NodeAddr} (own : s.node.nodes[k].identPending = true)
    (below : ∀ j : NodeAddr, j < k → s.node.nodes[j].identPending = false) : s.nextIdent = some k :=
  find?_allNodes own below

/-! ## The downstream line (R3, R62, R69) -/

/-- Only the POLL of a poll whose slots have not begun ends on the line. -/
theorem Work.map_lineEnded (work : Option Work) (now : Time) :
    work.map (·.lineEnded now) = if work = some (.poll true none) then some (.poll true (some now)) else work := by
  rcases work with _ | w
  · rfl
  · rcases w with _ | ⟨sent, ended⟩ | _ | _
    · rfl
    · cases sent <;> cases ended <;> simp
    · rfl
    · rfl

/-- Settles O31: the mark's guard holds; the line sends what has been ready longest, and starts the limit of a request. -/
theorem marksAndDownstreamLine : Obligations.MarksAndDownstreamLine := by
  intro s dt u after
  have ended : u.frameEnded = { u with node.work := after } := by
    simp only [State.frameEnded, Work.map_lineEnded]
    rfl
  have empty (ready : s.node.ready = []) :
      exec (.downstreamSend dt) s = .next { u with node.line := none, node.work := after } := by
    have ready' : u.node.ready = [] := ready
    simp only [exec, execDownstreamSend]
    rw [show (s.advance dt).frameEnded = _ from ended]
    simp only [ready']
  have front {f : DownFrame} {q : List DownFrame} (ready : s.node.ready = f :: q) :
      exec (.downstreamSend dt) s = .next (
        let sent : State := { u with node.ready := q, node.line := some f, node.work := after }
        if f.isRequest then sent.requestSent else sent) := by
    have ready' : u.node.ready = f :: q := ready
    simp only [exec, execDownstreamSend]
    rw [show (s.advance dt).frameEnded = _ from ended]
    simp only [ready']
  have kept {w : Work} (work : s.node.work = some w) (other : w ≠ .poll true none) : after = some w := by
    simp [after, work, other]
  refine ⟨fun due => ?_, empty, fun f q ready plain => ?_, fun k q ready work => ?_, fun q ready work => ?_,
    fun k q ready work => ?_, fun k register write value q t ready work slot => ⟨fun first => ?_, fun again => ?_⟩⟩
  · have due' : reached (s.advance dt).clock (s.advance dt).node.nextMark = true := due
    simp only [exec, execTimeMark, if_pos due']
    cases power : s.session.power <;> simp [power, State.sendDown, markInterval, micros, u]
  · rw [front ready, plain]; rfl
  · rw [front ready, kept work (by simp)]; rfl
  · rw [front ready, kept work (by simp)]; rfl
  · rw [front ready, kept work (by simp)]; rfl
  · rw [front ready, kept work (by simp)]
    simp [DownFrame.isRequest, State.requestSent, Work.onLine, u, slot, Transaction.attempt, first]
  · rw [front ready, kept work (by simp)]
    simp [DownFrame.isRequest, State.requestSent, Work.onLine, u, slot, Transaction.attempt, again]

/-! ## Identification (R41, R62, R64) -/

theorem State.haltIfAsleep_eq (s : State) (k : NodeAddr) :
    s.haltIfAsleep k = { s with
      node.ready := s.node.ready ++ (if s.session.power = .standby then [.halt (some k)] else []) } := by
  unfold State.haltIfAsleep
  split
  · rfl
  · simp

theorem State.thermalOnline_eq (s : State) :
    s.thermalOnline = { s with session :=
      if s.session.thermalSeen = false then
        if s.session.settleState = .waiting then
          { s.session with thermalSeen := true, settleState := .settling, settle := s.settleTimer }
        else { s.session with thermalSeen := true }
      else s.session } := by
  unfold State.thermalOnline
  cases s.session.thermalSeen
  · by_cases waiting : s.session.settleState = .waiting <;> simp [waiting]
  · rfl

theorem State.touchNode_eq (s : State) (k : NodeAddr) (srq : Bool) :
    s.touchNode k srq = { s with
      node.nodes := s.node.nodes.set k { s.node.nodes[k] with lastFrame := some s.clock }
      node.pollWanted := s.node.pollWanted || srq } := by
  cases srq <;> simp [State.touchNode, State.updNode]

/-- An entry written, and written again from what it then is. -/
theorem Vec.set_get_set {α : Type} {n : Nat} (v : Vector α n) (k : Fin n) (x : α) (f : α → α) :
    (v.set k x).set k (f (v.set k x)[k]) = v.set k (f x) := by
  simp

/-- Settles O32: the row IDENT's choice of address, its limit, and what its answer makes of the node. -/
theorem identificationRuns : Obligations.IdentificationRuns := by
  intro s dt k t u
  refine ⟨fun free quiet pending below => ?_, fun work due => ?_, fun frame srq ty roles work parsed => ?_⟩
  · have status : (s.advance dt).nextStatus = none := State.nextStatus_eq_none quiet
    have next : (s.advance dt).nextIdent = some k := State.nextIdent_eq pending below
    have free' : (s.advance dt).node.work = none := free
    simp only [exec, execIdent, free', status, next]
    rfl
  · have work' : (s.advance dt).node.work = some (.ident k (some t)) := work
    simp only [exec, execIdentTimeout, work']
    exact if_pos due
  · have awaits : (s.advance dt).awaitsIdent k = true := by simp [State.awaitsIdent, work]
    simp only [exec, execIdentAnswer, parsed, awaits, if_true, State.resolveIdent, State.becomeOnline,
      State.haltIfAsleep_eq, State.thermalOnline_eq, State.touchNode_eq]
    cases ty
    · simp [State.updNode, u]
    · simp [State.updNode, u]
      rfl

/-! ## Polling (R68, R69) -/

theorem State.frameFrom_known {s : State} {k : NodeAddr} (isIdent : Bool)
    (known : s.node.nodes[k].status = .online ∨ s.node.nodes[k].status = .fault) : s.frameFrom k isIdent = s := by
  rcases known with status | status <;> simp only [State.frameFrom, status]

theorem any_allNodes (p : NodeAddr → Bool) : allNodes.any p = true ↔ ∃ k, p k = true := by
  have order : allNodes = List.finRange 6 := by decide
  simp [order]

/-- Settles O33: the guard of each row holds; the POLL ends when the line is next served. -/
theorem pollingRuns : Obligations.PollingRuns := by
  intro s dt t u
  refine ⟨fun free quiet identified wanted => ?_, fun work ready => ?_, fun ended frame k srq work parsed known => ?_,
    fun work due => ?_⟩
  · have status : (s.advance dt).nextStatus = none := State.nextStatus_eq_none quiet
    have next : (s.advance dt).nextIdent = none := State.nextIdent_eq_none identified
    have free' : (s.advance dt).node.work = none := free
    simp only [exec, execPoll, free', status, next]
    exact if_pos wanted
  · have line := (marksAndDownstreamLine s dt).2.1 ready
    rw [line, if_pos work]
  · have unchanged : (s.advance dt).frameFrom k false = s.advance dt := State.frameFrom_known false known
    simp [exec, execPollAnswer, parsed, unchanged, State.touchNode_eq, work, State.updNode, u]
  · have work' : (s.advance dt).node.work = some (.poll true (some t)) := work
    simp only [exec, execPollEnd, work']
    refine (if_pos due).trans ?_
    by_cases asked : ∃ k : NodeAddr, s.node.nodes[k].requesting = true
    · rw [if_pos asked]
      exact if_pos ((any_allNodes _).2 asked)
    · rw [if_neg asked]
      exact if_neg fun h => asked ((any_allNodes _).1 h)

/-! ## Discards and silence (R63, R65) -/

/-- Settles O37: a frame that parses to nothing is counted, and the watch of NODE_SILENCE runs in ACTIVE alone. -/
theorem discardsAndSilence : Obligations.DiscardsAndSilence := by
  refine ⟨fun s dt frame bad => ?_, fun s dt k t known last due => ?_⟩
  · intro u
    have sixteenth : (s.node.discards < 65535 ∧ bump s.node.discards % 16 = 0) =
        (s.node.discards < 65535 ∧ (s.node.discards + 1) % 16 = 0) := by
      refine propext ⟨fun ⟨below, each⟩ => ⟨below, ?_⟩, fun ⟨below, each⟩ => ⟨below, ?_⟩⟩
      · rwa [bump_of_lt below] at each
      · rwa [bump_of_lt below]
    simp only [exec, execUpstreamDiscard, bad, State.advance_frame, sixteenth]
    rfl
  · intro u
    have last' : (s.advance dt).node.nodes[k].lastFrame = some t := last
    simp only [exec, execNodeSilence, last']
    by_cases active : s.session.power = .active
    · rw [if_pos active]
      exact if_pos ⟨active, known, due⟩
    · rw [if_neg active]
      exact if_neg fun h => active h.1

end Sys2Proof.Machine

/-!
PROOFS. Chapter 4, second part: what a run of raises leaves in the Alert Table, fault lists, and status reads.
-/

namespace Sys2Proof.Machine

/-! ## A run of raises (R138) -/

theorem State.raise_entry_self (s : State) (k : AlertKind) (src : Source) :
    (s.raise k src).alertEntry k = (s.alertEntry k).raised src := by
  rw [State.raise_alertEntry, State.alertEntry_writeRaised_self]

theorem State.raise_entry_ne (s : State) {j k : AlertKind} (src : Source) (other : j ≠ k) :
    (s.raise k src).alertEntry j = s.alertEntry j := by
  rw [State.raise_alertEntry, State.alertEntry_writeRaised_ne s src other]

/-- A raise whose source is no axle changes the alert unit and the ALERT class alone. -/
theorem State.raise_changes_of_unnamed {s : State} (k : AlertKind) {src : Source} (unnamed : ∀ q n, src ≠ .axle q n) :
    s.raise k src = { s with alert := (s.raise k src).alert, port.alertQ := (s.raise k src).port.alertQ } := by
  have changes := s.raise_changes k src
  rw [State.raise_records_of_unnamed k fun n => unnamed _ n] at changes
  exact changes

theorem State.raiseAll_changes_of_unnamed {src : Source} (unnamed : ∀ q n, src ≠ .axle q n) (l : List AlertKind) (s : State) :
    s.raiseAll src l =
      { s with alert := (s.raiseAll src l).alert, port.alertQ := (s.raiseAll src l).port.alertQ } := by
  induction l generalizing s with
  | nil => rfl
  | cons k l ih =>
    have first := s.raise_changes_of_unnamed k unnamed
    have later := ih (s.raise k src)
    simp only [State.raiseAll]
    generalize (s.raise k src).raiseAll src l = t at later ⊢
    rw [first] at later
    exact later

theorem State.raiseAll_entry_of_not_mem {src : Source} {l : List AlertKind} {j : AlertKind} (absent : j ∉ l) (s : State) :
    (s.raiseAll src l).alertEntry j = s.alertEntry j := by
  induction l generalizing s with
  | nil => rfl
  | cons k l ih =>
    obtain ⟨other, rest⟩ : j ≠ k ∧ j ∉ l := by simpa using absent
    simp only [State.raiseAll]
    rw [ih rest, State.raise_entry_ne s src other]

theorem State.raiseAll_last {src : Source} {l : List AlertKind} {j : AlertKind} (raised : j ∈ l) (s : State) :
    ((s.raiseAll src l).alertEntry j).last = some src := by
  induction l generalizing s with
  | nil => cases raised
  | cons k l ih =>
    simp only [State.raiseAll]
    by_cases later : j ∈ l
    · exact ih later _
    · obtain rfl : j = k := (List.mem_cons.1 raised).resolve_right later
      rw [State.raiseAll_entry_of_not_mem later, State.raise_entry_self]
      rfl

theorem State.raiseAll_count (src : Source) (l : List AlertKind) (j : AlertKind) (s : State)
    (within : (s.alertEntry j).count ≤ 65535) :
    ((s.raiseAll src l).alertEntry j).count = min ((s.alertEntry j).count + l.count j) 65535 := by
  induction l generalizing s with
  | nil => simp [State.raiseAll, Nat.min_eq_left within]
  | cons k l ih =>
    simp only [State.raiseAll]
    by_cases own : k = j
    · subst own
      have count : ((s.raise k src).alertEntry k).count = min ((s.alertEntry k).count + 1) 65535 := by
        rw [State.raise_entry_self]; rfl
      rw [ih _ (count ▸ Nat.min_le_right _ _), count, List.count_cons_self]
      omega
    · have same := s.raise_entry_ne src (Ne.symm own)
      rw [ih _ (same ▸ within), same, List.count_cons_of_ne own]

/-! ## Fault lists (R67) -/

theorem nodup_eraseDups {α : Type} [BEq α] [LawfulBEq α] : ∀ l : List α, l.eraseDups.Nodup
  | [] => by simp
  | a :: l => by
    rw [List.eraseDups_cons, List.nodup_cons]
    refine ⟨?_, nodup_eraseDups _⟩
    simp [List.mem_eraseDups]
termination_by l => l.length
decreasing_by exact Nat.lt_succ_of_le (List.length_filter_le _ _)

theorem dedupFaults_eq (l acc : List FaultEntry) : dedupFaults acc l = List.eraseDupsBy.loop (· == ·) l acc.reverse := by
  induction l generalizing acc with
  | nil => simp [dedupFaults, List.eraseDupsBy.loop]
  | cons f l ih =>
    simp only [dedupFaults, List.eraseDupsBy.loop, ih]
    by_cases known : f ∈ acc
    · have any : acc.reverse.any (fun x => f == x) = true := by simpa using known
      rw [if_pos known, any]
    · have any : acc.reverse.any (fun x => f == x) = false := by
        simpa using fun (x : FaultEntry) (mem : x ∈ acc) (same : f = x) => known (same ▸ mem)
      rw [if_neg known, any]
      simp

theorem dedupFaults_nil (l : List FaultEntry) : dedupFaults [] l = l.eraseDups := dedupFaults_eq l []

theorem mem_namedChannels {l : List FaultEntry} {c : Nat} : c ∈ namedChannels l ↔ ∃ f ∈ l, f.channel = some c := by
  induction l with
  | nil => simp [namedChannels]
  | cons f l ih =>
    unfold namedChannels
    split
    · next d channel =>
      by_cases own : c = d
      · simp [own, channel]
      · have other : ¬ d = c := Ne.symm own
        simp [own, channel, ih, other]
    · next channel => simp [channel, ih]

theorem nodup_namedChannels (l : List FaultEntry) : (namedChannels l).Nodup := by
  induction l with
  | nil => simp [namedChannels]
  | cons f l ih =>
    unfold namedChannels
    split
    · simp [ih.filter]
    · exact ih

/-- The channels an answer newly names are as many as the statement's list of them holds (R67). -/
theorem newChannels_length (l old : List FaultEntry) :
    ((namedChannels l.eraseDups).filter fun c => c ∉ namedChannels old).length =
      ((l.filterMap (·.channel)).eraseDups.filter fun c => decide (∀ f ∈ old, f.channel ≠ some c)).length := by
  refine List.Perm.length_eq ((List.perm_ext_iff_of_nodup ?_ ?_).2 fun c => ?_)
  · exact (nodup_namedChannels _).filter _
  · exact (nodup_eraseDups _).filter _
  · simp [mem_namedChannels]

/-! ## Status reads (R66 to R70) -/

/-- An entry read back where it was written. -/
theorem Vec.get_set_self {α : Type} {n : Nat} (v : Vector α n) (k : Fin n) (x : α) : (v.set k x)[k] = x := by
  simp

/-- What an answer to the status read in flight from a known node leads to, before the list is applied. -/
theorem execStatusAnswer_applies {s : State} {dt t : Time} {k : NodeAddr} {frame : List Byte} {srq : Bool}
    {l : List FaultEntry} (work : s.node.work = some (.status k (some t)))
    (parsed : parseUp frame = some ⟨k, srq, .statusAnswer l⟩)
    (known : s.node.nodes[k].status = .online ∨ s.node.nodes[k].status = .fault) :
    exec (.statusAnswer dt frame) s = .next (State.applyStatus { s.advance dt with
      node.work := none
      node.pollWanted := s.node.pollWanted || srq
      node.nodes := s.node.nodes.set k
        { s.node.nodes[k] with lastFrame := some (s.advance dt).clock, owed := false } } k l) := by
  have unchanged : (s.advance dt).frameFrom k false = s.advance dt := State.frameFrom_known false known
  have present : s.node.nodes[k].status ≠ .absent := by rcases known with h | h <;> rw [h] <;> simp
  have answered : (((s.advance dt).frameFrom k false).touchNode k srq).node.work = some (.status k (some t)) := by
    rw [unchanged, State.touchNode_eq]; exact work
  simp only [exec, execStatusAnswer, parsed, answered, if_true]
  rw [unchanged, State.touchNode_eq]
  refine (if_neg ?_).trans (congrArg _ ?_)
  · simpa [-Fin.getElem_fin, Vec.get_set_self, State.updNode] using present
  · simp [-Fin.getElem_fin, Vec.get_set_self, State.updNode]

theorem State.applyStatus_empty (s : State) (k : NodeAddr) :
    s.applyStatus k [] = { s with
      node.nodes := s.node.nodes.set k { s.node.nodes[k] with
        faults := [], status := if s.node.nodes[k].status = .fault then .online else s.node.nodes[k].status }
      node.ready := s.node.ready ++
        (if s.node.nodes[k].status = .fault ∧ s.session.power = .standby then [.halt (some k)] else []) } := by
  by_cases fault : s.node.nodes[k].status = .fault
  · simp [-Fin.getElem_fin, State.applyStatus, dedupFaults, fault, State.haltIfAsleep_eq, State.updNode]
  · simp [-Fin.getElem_fin, State.applyStatus, dedupFaults, fault, State.updNode]

theorem State.applyStatus_faults {s : State} {k : NodeAddr} {l : List FaultEntry} (some : l ≠ []) :
    s.applyStatus k l =
      let u : State := { s with node.nodes := s.node.nodes.set k { s.node.nodes[k] with
        faults := l.eraseDups
        status := if s.node.nodes[k].status = .online then .fault else s.node.nodes[k].status } }
      let src := Source.node s.session.seq k
      (if s.node.nodes[k].status = .online then u.raise .n2 src else u).raiseAll src
        (((namedChannels l.eraseDups).filter fun c => c ∉ namedChannels s.node.nodes[k].faults).map fun _ => .n3) := by
  have kept : l.eraseDups ≠ [] := by
    cases l with
    | nil => exact absurd rfl some
    | cons f l => simp [List.eraseDups_cons]
  simp only [State.applyStatus, dedupFaults_nil, if_neg kept]
  rfl

/-- Settles O34: the row of the request, its limit, and the two forms of a fault list. -/
theorem statusReadsRun : Obligations.StatusReadsRun := by
  intro s dt k t u e answered
  refine ⟨fun free asked below => ?_, fun work due => ?_, fun frame srq work parsed => ⟨fun online => ?_, fun fault => ?_⟩,
    fun frame f c work parsed online clear channel => ?_, fun frame srq l work parsed some known => ?_⟩
  · have next : (s.advance dt).nextStatus = .some k := State.nextStatus_eq asked below
    have free' : (s.advance dt).node.work = none := free
    simp only [exec, execStatusRequest, free', next]
    rfl
  · have work' : (s.advance dt).node.work = .some (.status k (.some t)) := work
    simp only [exec, execStatusReadTimeout, work']
    exact if_pos due
  · rw [execStatusAnswer_applies work parsed (.inl online), State.applyStatus_empty]
    simp [-Fin.getElem_fin, Vec.get_set_self, answered, e, u, show s.node.nodes[k].status = .online from online]
  · rw [execStatusAnswer_applies work parsed (.inr fault), State.applyStatus_empty]
    simp [-Fin.getElem_fin, Vec.get_set_self, answered, e, u, show s.node.nodes[k].status = .fault from fault]
  · rw [execStatusAnswer_applies work parsed (.inl online), State.applyStatus_faults (by simp)]
    have one : namedChannels [f] = [c] := by simp [namedChannels, channel]
    have single : [f].eraseDups = [f] := by simp [List.eraseDups_cons]
    have old : s.node.nodes[k].faults = [] := clear
    have status : s.node.nodes[k].status = .online := online
    simp [-Fin.getElem_fin, Vec.get_set_self, single, one, old, status, namedChannels, State.raiseAll, answered, e, u]
  · intro named
    obtain ⟨w, base⟩ : ∃ w : State, w = { u with
      node.work := none, node.pollWanted := s.node.pollWanted || srq
      node.nodes := s.node.nodes.set k (answered .fault l.eraseDups) } := ⟨_, rfl⟩
    obtain ⟨y, moved⟩ : ∃ y : State, y = if e.status = .online then w.raise .n2 (.node s.session.seq k) else w := ⟨_, rfl⟩
    have unnamed : ∀ q n, Source.node s.session.seq k ≠ .axle q n := by simp
    have status : (if s.node.nodes[k].status = .online then NodeStatus.fault else s.node.nodes[k].status) = .fault := by
      rcases known with h | h
      · exact if_pos h
      · exact (if_neg fun online => by cases h.symm.trans online).trans h
    have start : exec (.statusAnswer dt frame) s = .next (y.raiseAll (.node s.session.seq k)
        (((namedChannels l.eraseDups).filter fun c => c ∉ namedChannels e.faults).map fun _ => .n3)) := by
      rw [execStatusAnswer_applies work parsed known, State.applyStatus_faults some, moved, base]
      simp only [Vec.get_set_self, Vector.set_set, status]
      rfl
    rw [List.map_const', newChannels_length l e.faults] at start
    have entry (j : AlertKind) (other : j ≠ .n2) : y.alertEntry j = s.alertEntry j := by
      rw [moved]
      split
      · rw [w.raise_entry_ne _ other, base]; rfl
      · rw [base]; rfl
    refine ⟨_, start, ?_, ?_, fun within => ?_, fun new => ?_, fun j other2 other3 => ?_⟩
    · have first : y = { w with alert := y.alert, port.alertQ := y.port.alertQ } := by
        rw [moved]
        split
        · exact w.raise_changes_of_unnamed .n2 unnamed
        · rfl
      have later := State.raiseAll_changes_of_unnamed unnamed (List.replicate named.length .n3) y
      generalize y.raiseAll (.node s.session.seq k) (List.replicate named.length .n3) = t' at later ⊢
      rw [first, base] at later
      exact later
    · rw [State.raiseAll_entry_of_not_mem (by simp [List.mem_replicate]), moved]
      split
      · rw [State.raise_entry_self, base]; rfl
      · rw [base]; rfl
    · have same := entry .n3 (by simp)
      rw [State.raiseAll_count _ _ _ _ (same ▸ within), same, List.count_replicate_self]
    · exact State.raiseAll_last (List.mem_replicate.2 ⟨List.length_pos_iff.2 new |>.ne', rfl⟩) y
    · rw [State.raiseAll_entry_of_not_mem (by simp [List.mem_replicate, other3]), entry j other2]

end Sys2Proof.Machine

/-!
PROOFS. Chapter 4, third part: the site computer's transaction.
-/

namespace Sys2Proof.Machine

/-- An entry read back where another was written. -/
theorem Vec.get_set_ne {α : Type} {n : Nat} (v : Vector α n) {k j : Fin n} (x : α) (other : k ≠ j) :
    (v.set k x)[j] = v[j] := by
  have apart : k.val ≠ j.val := fun h => other (Fin.ext h)
  simp [Vector.getElem_set_ne _ _ apart]

/-! ## The item being served (R73, R76) -/

theorem Transaction.current_of_block {t : Transaction} (block : t.mode ≠ .scan) : t.current = t.items[t.index]? := by
  unfold Transaction.current
  split
  · next mode => exact absurd mode block
  · rfl

theorem Transaction.current_of_scan {t : Transaction} {i : TxItem} {l : List TxItem} {k : NodeAddr} (scan : t.mode = .scan)
    (items : t.items = i :: l) (address : t.index = k.val) : t.current = some { i with node := k } := by
  simp [Transaction.current, scan, items, address, k.isLt]

theorem State.sendItem_of_current {s : State} {t : Transaction} {i : TxItem} (current : t.current = some i) :
    s.sendItem t = { s with
      node.ready := s.node.ready ++ [.itemRequest i.node i.register i.write i.value]
      node.slot := some t, node.work := some (.item none) } := by
  simp [State.sendItem, current, State.sendDown]

theorem State.nextOnline_eq {s : State} {a : Nat} {k : NodeAddr} (from_a : a ≤ k.val) (online : s.node.nodes[k].status = .online)
    (below : ∀ j : NodeAddr, a ≤ j.val → j.val < k.val → s.node.nodes[j].status ≠ .online) : s.nextOnline a = some k := by
  refine find?_allNodes (by simpa [-Fin.getElem_fin] using ⟨from_a, online⟩) fun j before => ?_
  simpa [-Fin.getElem_fin] using fun h => below j h before

theorem State.nextOnline_eq_none {s : State} {a : Nat}
    (none : ∀ j : NodeAddr, a ≤ j.val → s.node.nodes[j].status ≠ .online) : s.nextOnline a = .none :=
  find?_allNodes_none fun j => by simpa [-Fin.getElem_fin] using none j

/-! ## TRANSACTION_BEGIN and NODE TRANSACTION (R68, R72, R73) -/

/-- What the row TRANSACTION_BEGIN does when nothing else is in flight or waiting. -/
theorem execTransactionBegin_of_idle {s : State} {dt : Time} {t : Transaction} (free : s.node.work = none)
    (noStatus : s.nextStatus = none) (noIdent : s.nextIdent = none) (noPoll : s.node.pollWanted = false)
    (slot : s.node.slot = some t) (waiting : t.inFlight = false) :
    (t.mode ≠ .scan → exec (.transactionBegin dt) s = .next ((s.advance dt).sendItem { t with inFlight := true })) ∧
    (∀ i l, t.mode = .scan → t.items = i :: l →
      exec (.transactionBegin dt) s = .next ((s.advance dt).scanFrom { t with inFlight := true } i.node.val)) := by
  have free' : (s.advance dt).node.work = none := free
  have status : (s.advance dt).nextStatus = none := noStatus
  have ident : (s.advance dt).nextIdent = none := noIdent
  have slot' : (s.advance dt).node.slot = some t := slot
  have idle : ((s.advance dt).node.pollWanted || t.inFlight) = false := by simp [noPoll, waiting]
  simp only [exec, execTransactionBegin, free', status, ident, slot', idle, Bool.false_eq_true, if_false]
  refine ⟨fun block => ?_, fun i l scan items => ?_⟩
  · split
    · next mode _ => exact absurd mode block
    · rfl
  · split
    · next items' => rw [items] at items'; cases items'; rfl
    · next none => exact absurd items (none i l scan)

theorem State.scanFrom_online {s : State} {t : Transaction} {i : TxItem} {l : List TxItem} {a : Nat} {k : NodeAddr}
    (scan : t.mode = .scan) (items : t.items = i :: l) (found : s.nextOnline a = some k) :
    s.scanFrom t a = { s with
      node.ready := s.node.ready ++ [.itemRequest k i.register i.write i.value]
      node.slot := some { t with index := k.val, firstAttempt := none }, node.work := some (.item none) } := by
  have current : Transaction.current { t with index := k.val, firstAttempt := none } = some { i with node := k } :=
    Transaction.current_of_scan (l := l) scan items rfl
  simp only [State.scanFrom, found]
  exact State.sendItem_of_current current

theorem boolOf_of_le {b : Byte} (small : b.toNat ≤ 1) : boolOf b.toNat = some (decide (b = 1)) := by
  have cases : b.toNat = 0 ∨ b.toNat = 1 := by omega
  rcases cases with zero | one
  · obtain rfl : b = 0 := BitVec.eq_of_toNat_eq zero
    rfl
  · obtain rfl : b = 1 := BitVec.eq_of_toNat_eq one
    rfl

/-- One item of five bytes with a good address and access (R72). -/
theorem parseItem_of_good {node reg acc v0 v1 : Byte} (address : 1 ≤ node.toNat ∧ node.toNat ≤ 6) (access : acc.toNat ≤ 1) :
    parseItem [node, reg, acc, v0, v1] = some
      { node := ⟨node.toNat - 1, by omega⟩, register := reg, write := decide (acc = 1), value := v1 ++ v0 } := by
  have number : u8 [node, reg, acc, v0, v1] 0 = node.toNat := rfl
  have write : boolOf (u8 [node, reg, acc, v0, v1] 2) = some (decide (acc = 1)) := boolOf_of_le access
  simp only [parseItem, write, number, dif_pos address]
  rfl

/-- The checks of R72 on one good item. -/
theorem State.checkTransaction_of_one {tag mode dis node reg acc v0 v1 : Byte} {m : TxMode} (known : txModeOf mode.toNat = some m)
    (access : acc.toNat ≤ 1) (address : 1 ≤ node.toNat ∧ node.toNat ≤ 6) (s : State) :
    s.checkTransaction tag [mode, dis, 1, node, reg, acc, v0, v1] =
      if s.sessionOpen then .refuse .trainActive
      else if s.node.slot.isSome then .refuse .busy
      else .accept { tag, mode := m, disable := decide (dis ≠ 0), items :=
        [{ node := ⟨node.toNat - 1, by omega⟩, register := reg, write := decide (acc = 1), value := v1 ++ v0 }] } := by
  have modeByte : u8 [mode, dis, 1, node, reg, acc, v0, v1] 0 = mode.toNat := rfl
  have one : u8 [mode, dis, 1, node, reg, acc, v0, v1] 2 = 1 := rfl
  have disByte : u8 [mode, dis, 1, node, reg, acc, v0, v1] 1 = dis.toNat := rfl
  have good : ¬ (([mode, dis, 1, node, reg, acc, v0, v1] : List Byte).length < 3 ∨
      ([mode, dis, 1, node, reg, acc, v0, v1] : List Byte).length ≠ 3 + 5 * 1 ∨ 1 = 0 ∨ 64 < 1 ∨
      ((mode.toNat = 0 ∨ mode.toNat = 4) ∧ 1 ≠ 1)) := by simp
  have items : chunks 5 1 (([mode, dis, 1, node, reg, acc, v0, v1] : List Byte).drop 3) = [[node, reg, acc, v0, v1]] := rfl
  have disable : decide (dis.toNat ≠ 0) = decide (dis ≠ 0) := by
    congr 1
    exact propext ⟨fun h same => h (by simp [same]), fun h zero => h (BitVec.eq_of_toNat_eq zero)⟩
  simp only [State.checkTransaction, modeByte, one, disByte, if_neg good, known, items, parseAll,
    parseItem_of_good address access, disable]

/-- Settles O35: the guard of the row holds, and the checks of R72 pass for one good item. -/
theorem transactionsBegin : Obligations.TransactionsBegin := by
  refine ⟨fun s dt t i l free noStatus noIdent noPoll slot waiting items index => ?_,
    fun s dt tag mode dis node reg acc v0 v1 rest m front room modeOk accOk nodeOk => ?_⟩
  · obtain ⟨block, scan⟩ := execTransactionBegin_of_idle (dt := dt) free noStatus noIdent noPoll slot waiting
    refine ⟨fun notScan => ?_, fun isScan k low online below => ?_⟩
    · have current : Transaction.current { t with inFlight := true } = some i := by
        rw [Transaction.current_of_block (by exact notScan)]
        simp [items, index]
      rw [block notScan, State.sendItem_of_current current]
      rfl
    · rw [scan i l isScan items, State.scanFrom_online (by exact isScan) (by exact items)
        (State.nextOnline_eq low (by exact online) (by exact below))]
      rfl
  · intro u
    have row : exec (.nodeTransaction dt) s =
        .next (State.serveNodeTransaction ⟨tag, [0x0A, mode, dis, 1, node, reg, acc, v0, v1]⟩
          { s.advance dt with port.commands := rest }) :=
      congrArg _ (State.serve_advance dt _ front room rfl)
    rw [row]
    have checks := State.checkTransaction_of_one (tag := tag) (dis := dis) (reg := reg) (v0 := v0) (v1 := v1) modeOk accOk
      nodeOk { s.advance dt with port.commands := rest }
    have args : Command.args ⟨tag, [0x0A, mode, dis, 1, node, reg, acc, v0, v1]⟩ =
      [mode, dis, 1, node, reg, acc, v0, v1] := rfl
    simp only [State.serveNodeTransaction, args, checks]
    refine ⟨fun isOpen => ?_, fun closed full => ?_, fun closed empty => ?_⟩
    · rw [if_pos (by exact isOpen)]
      rfl
    · have slot : s.node.slot.isSome = true := Option.isSome_iff_ne_none.2 full
      rw [if_neg (by rw [Bool.not_eq_true]; exact closed), if_pos (by exact slot)]
      rfl
    · rw [if_neg (by rw [Bool.not_eq_true]; exact closed), if_neg (by simp [empty])]

/-! ## Items resolved (R71, R73 to R77) -/

/-- The REPLY that ends a transaction, by its counts (R77). -/
def Transaction.replyWith (t : Transaction) (outcome : Byte) (remaining : Nat) : Reply :=
  { tag := t.tag, code := 0x0A, status := .ok
    results := [outcome] ++ le2 t.attempted ++ le2 t.accepted ++ le2 t.refused ++ le2 t.unanswered ++ le2 remaining ++
      t.values.flatMap fun v => le2 v.1 ++ leHalf v.2 }

theorem State.endTransaction_eq (s : State) (t : Transaction) (o : TxOutcome) :
    s.endTransaction t o = ({ s with node.slot := none, node.work := none } : State).offerReply
      (t.replyWith (BitVec.ofNat 8 o.code) t.remaining) := rfl

theorem Transaction.remaining_of_block {t : Transaction} (block : t.mode ≠ .scan) :
    t.remaining = t.items.length - t.attempted := by
  unfold Transaction.remaining
  split
  · next mode => exact absurd mode block
  · rfl

/-- An accepted READ keeps its value, an accepted WRITE none (R73, R76). -/
theorem Transaction.tally_accept {t : Transaction} {i : TxItem} (current : t.current = some i) (v : Half) :
    t.tally (.accept v) = { t with
      accepted := t.accepted + 1
      values := if i.write then t.values else
        t.values ++ [(if t.mode = .scan then t.index + 1 else t.index, v)] } := by
  simp only [Transaction.tally, current]

section
variable {s : State} {t : Transaction} {r : ItemResult}

theorem State.resolveItem_opened (opened : t.sessionOpened = true) :
    s.resolveItem t r = s.endTransaction (t.tally r) .sessionOpened := if_pos opened

theorem State.resolveItem_ends {o : TxOutcome} (closed : t.sessionOpened = false) (verdict : t.verdict s.clock r = .ends o) :
    s.resolveItem t r = s.endTransaction (t.tally r) o := by
  simp [State.resolveItem, closed, verdict]

theorem State.resolveItem_again (closed : t.sessionOpened = false) (verdict : t.verdict s.clock r = .again) :
    s.resolveItem t r = s.sendItem t := by
  simp [State.resolveItem, closed, verdict]

theorem State.resolveItem_last (closed : t.sessionOpened = false) (verdict : t.verdict s.clock r = .next)
    (block : t.mode ≠ .scan) (last : t.items[t.index + 1]? = none) :
    s.resolveItem t r = s.endTransaction (t.tally r) .complete := by
  have done : ¬ t.index + 1 < t.items.length := Nat.not_lt.2 (List.getElem?_eq_none_iff.1 last)
  simp [State.resolveItem, closed, verdict, block, done]

theorem State.resolveItem_next {j : TxItem} (closed : t.sessionOpened = false) (verdict : t.verdict s.clock r = .next)
    (block : t.mode ≠ .scan) (more : t.items[t.index + 1]? = some j) :
    s.resolveItem t r = s.sendItem { t.tally r with index := t.index + 1, firstAttempt := none } := by
  have further : t.index + 1 < t.items.length := (List.getElem?_eq_some_iff.1 more).1
  simp [State.resolveItem, closed, verdict, block, further]

theorem State.resolveItem_scan (closed : t.sessionOpened = false) (scan : t.mode = .scan) :
    s.resolveItem t r = s.scanFrom (t.tally r) (t.index + 1) := by
  have verdict : t.verdict s.clock r = .next := by simp [Transaction.verdict, scan]
  simp [State.resolveItem, closed, verdict, scan]

end

theorem State.scanFrom_end {s : State} {t : Transaction} {a : Nat} (none : s.nextOnline a = none) :
    s.scanFrom t a = s.endTransaction { t with index := 5 } .scanEnd := by
  simp [State.scanFrom, none]

/-! ## A session opening and the slot (R77) -/

/-- An opening ends the transaction last, in a state whose node link and replies are still those before it. -/
theorem State.openSession_ends (s : State) (st : SessionState) (b : Bool) :
    ∃ w : State, s.openSession st b = w.openEndsTransaction ∧ w.node = s.node ∧ w.port.replyQ = s.port.replyQ ∧
      w.port.heldReplies = s.port.heldReplies :=
  ⟨_, rfl, by simp, by simp, by simp⟩

theorem State.openEndsTransaction_flying {s : State} {t : Transaction} (slot : s.node.slot = some t)
    (flying : t.inFlight = true) :
    s.openEndsTransaction = { s with node.slot := some { t with sessionOpened := true } } := by
  simp [State.openEndsTransaction, slot, flying]

theorem State.openEndsTransaction_waiting {s : State} {t : Transaction} (slot : s.node.slot = some t)
    (waiting : t.inFlight = false) :
    s.openEndsTransaction = ({ s with node.slot := none } : State).offerReply (t.replyWith 5 t.remaining) := by
  simp only [State.openEndsTransaction, slot, waiting, Bool.false_eq_true, if_false]
  rfl

theorem State.offerReply_of_room {s : State} {r : Reply} (held : s.port.heldReplies = [])
    (room : s.port.replyQ.length < 4) : s.offerReply r = { s with port.replyQ := s.port.replyQ ++ [.reply r] } :=
  if_pos ⟨held, room⟩

/-- The row ITEM_TIMEOUT resolves the item as unanswered when its limit is reached. -/
theorem execItemTimeout_resolves {s : State} {dt t0 : Time} {t : Transaction}
    (work : s.node.work = some (.item (some t0))) (slot : s.node.slot = some t)
    (due : reached (s.clock + dt) (t0 + 2000) = true) :
    exec (.itemTimeout dt) s = .next ((s.advance dt).resolveItem t .noAnswer) := by
  have work' : (s.advance dt).node.work = some (.item (some t0)) := work
  have slot' : (s.advance dt).node.slot = some t := slot
  simp only [exec, execItemTimeout, work', slot']
  exact if_pos due

/-- The row ITEM_ANSWER resolves the item its node was asked for. -/
theorem execItemAnswer_resolves {s : State} {dt t0 : Time} {t : Transaction} {i : TxItem} {frame : List Byte} {ok : Bool}
    {v : Half} (work : s.node.work = some (.item (some t0))) (slot : s.node.slot = some t) (current : t.current = some i)
    (parsed : parseUp frame = some ⟨i.node, false, .itemAnswer ok v⟩) (online : s.node.nodes[i.node].status = .online) :
    exec (.itemAnswer dt frame) s = .next (State.resolveItem { s.advance dt with
      node.nodes := s.node.nodes.set i.node { s.node.nodes[i.node] with lastFrame := some (s.advance dt).clock } } t
      (if ok then .accept v else .refuse)) := by
  have unchanged : (s.advance dt).frameFrom i.node false = s.advance dt := State.frameFrom_known false (.inl online)
  have touched : ((s.advance dt).frameFrom i.node false).touchNode i.node false = { s.advance dt with
      node.nodes := s.node.nodes.set i.node { s.node.nodes[i.node] with lastFrame := some (s.advance dt).clock } } := by
    rw [unchanged, State.touchNode_eq]
    simp
  simp only [exec, execItemAnswer, parsed, touched, State.advance_frame, work, slot, current, Option.map_some, if_true]

/-- Settles O36: the verdict of each mode, then each way on by its own `resolveItem` lemma. -/
theorem itemsAreResolved : Obligations.ItemsAreResolved := by
  unfold Obligations.ItemsAreResolved
  intro reply
  refine ⟨fun t now v => ⟨fun mode => ?_, fun mode => ?_, fun mode => ?_, fun mode => ?_⟩,
    fun s dt t i t0 work slot block item => ?_, fun s dt t i l t0 a work slot scan items index flying closed => ?_,
    fun s st b t slot => ⟨fun flying => ?_, fun waiting form held room => ?_⟩⟩
  · simp [Transaction.verdict, mode]
  · simp [Transaction.verdict, mode]
  · simp [Transaction.verdict, mode]
  · refine ⟨by simp [Transaction.verdict, mode], by simp [Transaction.verdict, mode], fun f first => ?_⟩
    simp only [Transaction.verdict, mode, first]
    rfl
  · have current : t.current = some i := (Transaction.current_of_block block).trans item
    refine ⟨fun closed => ⟨fun frame v parsed online mode read => ?_, fun frame v parsed online modes last write => ?_,
      fun due mode => ?_, fun j due mode disabled more => ?_, fun frame v f parsed online mode first early => ?_⟩,
      fun opened due => ?_⟩
    · rw [execItemAnswer_resolves work slot current parsed online, if_pos rfl,
        State.resolveItem_ends (o := .complete) closed (by simp [Transaction.verdict, mode]), State.endTransaction_eq,
        Transaction.tally_accept current, Transaction.remaining_of_block (by exact block), read, if_neg block]
      rfl
    · have verdict (now : Time) : t.verdict now (.accept v) = .next := by
        simp only [List.mem_cons, List.not_mem_nil, or_false] at modes
        rcases modes with mode | mode | mode <;> simp [Transaction.verdict, mode]
      rw [execItemAnswer_resolves work slot current parsed online, if_pos rfl,
        State.resolveItem_last closed (verdict _) block last, State.endTransaction_eq,
        Transaction.tally_accept current, Transaction.remaining_of_block (by exact block), write]
      rfl
    · rw [execItemTimeout_resolves work slot due,
        State.resolveItem_ends (o := .noAnswer) closed (by simp [Transaction.verdict, mode]), State.endTransaction_eq,
        Transaction.remaining_of_block (by exact block)]
      rfl
    · have next : Transaction.current { t.tally .noAnswer with index := t.index + 1, firstAttempt := none } = some j :=
        (Transaction.current_of_block (by exact block)).trans more
      rw [execItemTimeout_resolves work slot due,
        State.resolveItem_next closed (by simp [Transaction.verdict, mode, disabled]) block more,
        State.sendItem_of_current next]
      rfl
    · have late : reached (s.advance dt).clock (f + micros repeatLimit) = false := early
      rw [execItemAnswer_resolves work slot current parsed online, if_neg (by simp),
        State.resolveItem_again closed (by simp only [Transaction.verdict, mode, first, late]; rfl),
        State.sendItem_of_current current]
      rfl
    · rw [execItemTimeout_resolves work slot due, State.resolveItem_opened opened, State.endTransaction_eq,
        Transaction.remaining_of_block (by exact block)]
      rfl
  · have current : t.current = some { i with node := a } := Transaction.current_of_scan scan items index
    refine ⟨fun k due after online below => ?_, fun frame v parsed online read others => ?_⟩
    · have order : a.val < k.val := after
      have found : (s.advance dt).nextOnline (t.index + 1) = some k :=
        State.nextOnline_eq (by omega) online fun j low high => below j (Fin.lt_def.2 (by omega)) (Fin.lt_def.2 high)
      rw [execItemTimeout_resolves work slot due, State.resolveItem_scan closed scan,
        State.scanFrom_online (t := t.tally .noAnswer) scan items found]
      rfl
    · have none : State.nextOnline { s.advance dt with node.nodes :=
          (s.node.nodes.set a ({ s.node.nodes[a] with lastFrame := some (s.advance dt).clock } : NodeEntry)) }
          (t.index + 1) = none := by
        refine State.nextOnline_eq_none fun j low => ?_
        have other : a ≠ j := fun same => by subst same; omega
        simp only [Vec.get_set_ne _ _ other]
        exact others j (Fin.lt_def.2 (by omega))
      rw [execItemAnswer_resolves work slot current parsed online, if_pos rfl, State.resolveItem_scan closed scan,
        State.scanFrom_end none, State.endTransaction_eq, Transaction.tally_accept current]
      have remaining : Transaction.remaining { t with
          accepted := t.accepted + 1, values := if i.write then t.values else
            t.values ++ [(if t.mode = .scan then t.index + 1 else t.index, v)], index := 5 } = 0 := by
        simp [Transaction.remaining, scan, flying]
      rw [remaining, read, if_pos scan, index]
      rfl
  · obtain ⟨w, opening, node, -, -⟩ := s.openSession_ends st b
    rw [opening, State.openEndsTransaction_flying (by rw [node]; exact slot) flying, node]
  · obtain ⟨w, opening, node, queue, heldSame⟩ := s.openSession_ends st b
    refine ⟨t.remaining, fun block => Transaction.remaining_of_block block, fun i l scan items => ?_, ?_⟩
    · simp [Transaction.remaining, scan, waiting, items]
    · rw [opening, State.openEndsTransaction_waiting (by rw [node]; exact slot) waiting,
        State.offerReply_of_room (by rw [heldSame]; exact held) (by rw [queue]; exact room), node, queue]
      exact ⟨rfl, rfl⟩

end Sys2Proof.Machine

/-!
PROOFS. Chapter 4, fourth part: the sample store, and what a SAMPLES frame leaves in it.
-/

namespace Sys2Proof.Machine

/-! ## Rings, window reads and usability (R79 to R82) -/

theorem ringSample_append (ring : List Sample) (n : Sample) (t : Time) (r : Half) :
    ringSample (ring ++ [n]) t r =
      if t = n.time + 250 then some ⟨t, r, false⟩ else if older n.time t then some ⟨t, r, true⟩ else none := by
  simp only [ringSample, List.getLast?_concat]
  rfl

theorem State.unusable_of_valid {s : State} {i : ChanIdx} {e : Channel} (valid : s.channel? i = some e)
    (known : s.node.nodes[e.node].status = .online ∨ s.node.nodes[e.node].status = .fault) :
    s.unusable i =
      if kindMatches e s.node.nodes[e.node] = false then some .kindMismatch
      else if s.node.nodes[e.node].faults.any fun f => decide (f.channel = none ∨ f.channel = some e.channel) then
        some .channelFault
      else none := by
  rcases known with status | status <;> simp [State.unusable, valid, status, -Fin.getElem_fin]

/-- Settles O38: the ring rule by the newest sample, a window read by the oldest, usability by the node's status. -/
theorem sampleStoreAnswers : Obligations.SampleStoreAnswers := by
  refine ⟨⟨fun ring n t r => ⟨rfl, ?_, fun later other => ?_, fun early other => ?_, fun room => ?_, fun full => ?_⟩,
    fun s dt i n newest due => ?_, fun o n l ring a b => ⟨rfl, fun overwritten => ?_, fun oldest newest within => ?_⟩⟩,
    fun s i => ⟨fun none => ?_, fun e valid => ⟨fun absent => ?_, fun silent => ?_, fun known => ?_⟩⟩⟩
  · rw [ringSample_append, if_pos rfl]
  · rw [ringSample_append, if_neg other, if_pos later]
  · rw [ringSample_append, if_neg other, if_neg (by simp [early])]
  · simp [ringPush, ringCapacity, room]
  · simp [ringPush, ringCapacity, full]
  · have newest' : (s.advance dt).rings[i].getLast? = some n := newest
    simp only [exec, execRingExpiry, newest']
    exact if_pos due
  · exact if_pos overwritten
  · obtain ⟨l, rfl⟩ : ∃ l, ring = o :: l := by
      cases ring with
      | nil => cases oldest
      | cons x l => exact ⟨l, by rw [Option.some.inj oldest]⟩
    simp only [readWindow, within, newest]
    rfl
  · simp [State.unusable, none]
  · simp [State.unusable, valid, absent, -Fin.getElem_fin]
  · simp [State.unusable, valid, silent, -Fin.getElem_fin]
  · rw [State.unusable_of_valid valid known]
    refine ⟨fun mismatch => if_pos mismatch, fun kind faulty => ?_, fun kind sound => ?_⟩
    · rw [if_neg (by simp [-Fin.getElem_fin, kind]), if_pos (by simpa using faulty)]
    · rw [if_neg (by simp [-Fin.getElem_fin, kind]), if_neg (by simpa using sound)]

/-! ## One index's ring and block accumulator (R79, R100) -/

/-- What a stored sample makes of the block accumulator of its index while the block is not full (R100, R102). -/
def State.offered (s : State) (i : ChanIdx) (z : ZeroTrack) (y : Sample) : ZeroTrack :=
  if s.sessionOpen = true then z
  else if s.unusable i ≠ none ∨ y.raw = 0x7FFF#16 ∨ y.raw = 0x8000#16 then { z with count := 0, sum := 0 }
  else if y.gap then { z with count := 1, sum := y.raw.toInt }
  else { z with count := z.count + 1, sum := z.sum + y.raw.toInt }

/-- The ring and the tracking state of an index. -/
def State.cell (s : State) (i : ChanIdx) : List Sample × Option ZeroTrack := (s.rings[i], s.load.zero[i])

def State.setCell (s : State) (i : ChanIdx) (a : List Sample × Option ZeroTrack) : State :=
  { s with rings := s.rings.set i a.1, load.zero := s.load.zero.set i a.2 }

/-- One sample of time `t` offered to a cell. -/
def State.cellStep (s : State) (i : ChanIdx) (t : Time) (a : List Sample × Option ZeroTrack) (r : Half) :
    List Sample × Option ZeroTrack :=
  match ringSample a.1 t r with
  | some y => (ringPush a.1 y, a.2.map fun z => s.offered i z y)
  | none => a

/-- A channel's samples offered to a cell, in time order from `t`. -/
def State.cellRun (s : State) (i : ChanIdx) : Time → List Half → List Sample × Option ZeroTrack →
    List Sample × Option ZeroTrack
  | _, [], a => a
  | t, r :: l, a => s.cellRun i (t + 250) l (s.cellStep i t a r)

/-- As many samples as `n` can join the block of a cell before it is full; none can while a session is open. -/
def State.roomFor (s : State) (a : List Sample × Option ZeroTrack) (n : Nat) : Prop :=
  s.sessionOpen = false → ∀ z, a.2 = some z → z.count + n ≤ 256

theorem State.cell_setCell (s : State) (i : ChanIdx) (a : List Sample × Option ZeroTrack) : (s.setCell i a).cell i = a := by
  simp [State.cell, State.setCell]

theorem State.cell_setCell_ne (s : State) {i j : ChanIdx} (a : List Sample × Option ZeroTrack) (other : i ≠ j) :
    (s.setCell i a).cell j = s.cell j :=
  Prod.ext (Vec.get_set_ne _ _ other) (Vec.get_set_ne _ _ other)

theorem State.setCell_cell (s : State) (i : ChanIdx) : s.setCell i (s.cell i) = s := by
  simp [State.setCell, State.cell]

theorem State.setCell_setCell (s : State) (i : ChanIdx) (a b : List Sample × Option ZeroTrack) :
    (s.setCell i a).setCell i b = s.setCell i b := by
  simp [State.setCell]

theorem State.cellRun_setCell (s : State) (j i : ChanIdx) (b : List Sample × Option ZeroTrack) (t : Time) (l : List Half)
    (a : List Sample × Option ZeroTrack) : (s.setCell j b).cellRun i t l a = s.cellRun i t l a := by
  induction l generalizing t a with
  | nil => rfl
  | cons r l ih => exact ih ..

theorem State.offered_count_le (s : State) (i : ChanIdx) (z : ZeroTrack) (y : Sample) :
    (s.offered i z y).count ≤ z.count + 1 := by
  unfold State.offered
  repeat' split
  all_goals simp

theorem State.roomFor.step {s : State} {a : List Sample × Option ZeroTrack} {n : Nat} (room : s.roomFor a (n + 1))
    (i : ChanIdx) (t : Time) (r : Half) : s.roomFor (s.cellStep i t a r) n := by
  intro closed z holds
  unfold State.cellStep at holds
  split at holds
  · next y _ =>
    obtain ⟨z', before, rfl⟩ := Option.map_eq_some_iff.1 holds
    have grown := s.offered_count_le i z' y
    have fits := room closed z' before
    omega
  · have fits := room closed z holds
    omega

/-- A sample offered to autozero in ACTIVE whose block is not full joins it, and ends nothing (R100, R102). -/
theorem State.offerZero_of_room {s : State} (active : s.session.power = .active) {i : ChanIdx}
    (room : s.roomFor (s.cell i) 1) (y : Sample) :
    s.offerZero i y = { s with load.zero := s.load.zero.set i (s.load.zero[i].map fun z => s.offered i z y) } := by
  rw [State.offerZero_eq]
  cases closed : s.sessionOpen
  · have runs : (!s.autozeroRunning) = false := by simp [State.autozeroRunning, active, closed]
    have notFull : s.endFullBlock i = s := by
      unfold State.endFullBlock
      split
      · next z tracked =>
        have fits := room closed z tracked
        exact if_neg (by simp only [blockLength]; omega)
      · rfl
    rw [runs, if_neg (by simp), notFull]
    unfold State.joinBlock
    cases tracked : s.load.zero[i] with
    | none =>
      have unchanged : s.load.zero.set i none = s.load.zero := by simp [← tracked]
      simp only [Option.map_none, unchanged]
    | some z =>
      have spoilt : (!s.usable i || clippedRaw y.raw) = true ↔
          s.unusable i ≠ none ∨ y.raw = 0x7FFF#16 ∨ y.raw = 0x8000#16 := by
        cases reason : s.unusable i <;> simp [State.usable, clippedRaw, reason]
      dsimp only
      simp only [State.offered, closed, Option.map_some, spoilt, Bool.false_eq_true, if_false]
      split
      · rfl
      · split <;> rfl
  · have offered : (fun z => s.offered i z y) = id := by funext z; simp [State.offered, closed]
    rw [if_pos (by simp [State.autozeroRunning, closed]), offered]
    simp

theorem State.storeSample_of_room {s : State} (active : s.session.power = .active) {i : ChanIdx}
    (room : s.roomFor (s.cell i) 1) (t : Time) (r : Half) :
    s.storeSample i t r = s.setCell i (s.cellStep i t (s.cell i) r) := by
  unfold State.storeSample State.cellStep
  cases stored : ringSample s.rings[i] t r with
  | none => simp only [State.cell, stored]; exact (s.setCell_cell i).symm
  | some y =>
    simp only [State.cell, stored]
    exact State.offerZero_of_room (s := { s with rings := s.rings.set i (ringPush s.rings[i] y) }) active room y

/-- A run of samples changes the cell of its index, and nothing else, while the block has room for them. -/
theorem State.storeRun_of_room {s : State} (active : s.session.power = .active) {i : ChanIdx} (l : List Half)
    (room : s.roomFor (s.cell i) l.length) (t : Time) :
    s.storeRun i t l = s.setCell i (s.cellRun i t l (s.cell i)) := by
  induction l generalizing s t with
  | nil => exact (s.setCell_cell i).symm
  | cons r l ih =>
    have one : s.roomFor (s.cell i) 1 := fun closed z holds =>
      (Nat.add_le_add_left (Nat.succ_pos _) _).trans (room closed z holds)
    have rest : (s.setCell i (s.cellStep i t (s.cell i) r)).roomFor
        ((s.setCell i (s.cellStep i t (s.cell i) r)).cell i) l.length := by
      rw [State.cell_setCell]
      exact room.step i t r
    rw [State.storeRun, State.storeSample_of_room active one, ih (by exact active) rest, State.setCell_setCell,
      State.cell_setCell, State.cellRun_setCell]
    rfl

theorem State.cellRun_eq_foldl (s : State) (i : ChanIdx) (first : Time) (l : List Half) (n : Nat)
    (a : List Sample × Option ZeroTrack) :
    s.cellRun i (first + micros (250 * n)) l a =
      (l.zipIdx n).foldl (fun a x => s.cellStep i (first + micros (250 * x.2)) a x.1) a := by
  induction l generalizing n a with
  | nil => rfl
  | cons r l ih =>
    have later : first + micros (250 * n) + 250 = first + micros (250 * (n + 1)) := by
      simp only [micros]
      bv_omega
    rw [State.cellRun, later, ih]
    rfl

/-! ## The channels of a frame (R78) -/

theorem State.route_channel {s : State} {k : NodeAddr} {ch : Nat} {i : ChanIdx} (routed : s.route k ch = some i) :
    ∃ e, s.channel? i = some e ∧ e.node = k ∧ e.channel = ch := by
  have hit := List.find?_some routed
  split at hit
  · next e valid => exact ⟨e, valid, of_decide_eq_true hit⟩
  · cases hit

theorem State.route_of_unique {s : State} {k : NodeAddr} {i : ChanIdx} {e : Channel} (valid : s.channel? i = some e)
    (node : e.node = k)
    (unique : ∀ j f, s.channel? j = some f → f.node = k → f.channel = e.channel → j = i) :
    s.route k e.channel = some i :=
  State.findChannel_of_unique (p := fun f => decide (f.node = k ∧ f.channel = e.channel)) valid (by simp [node])
    fun j f entry named => unique j f entry (of_decide_eq_true named).1 (of_decide_eq_true named).2

/-- The channels of a frame from `ch` on change rings and tracking states alone: that of an index which names none of
them stays, and one that names the `n`-th takes its samples. -/
theorem State.storeChannels_of_room {s : State} (active : s.session.power = .active) {k : NodeAddr} {first : Time}
    {ch : Nat} {chs : List (List Half)}
    (room : ∀ n l i, chs[n]? = some l → s.route k (ch + n) = some i → s.roomFor (s.cell i) l.length) :
    ∃ rings zero, s.storeChannels k first ch chs = { s with rings := rings, load.zero := zero } ∧
      (∀ i, (∀ n l, chs[n]? = some l → s.route k (ch + n) ≠ some i) →
        rings[i] = s.rings[i] ∧ zero[i] = s.load.zero[i]) ∧
      ∀ n l i, chs[n]? = some l → s.route k (ch + n) = some i →
        (rings[i], zero[i]) = s.cellRun i first l (s.cell i) := by
  induction chs generalizing s ch with
  | nil => exact ⟨_, _, rfl, fun _ _ => ⟨rfl, rfl⟩, fun n l i at_ => by simp at at_⟩
  | cons run chs ih =>
    have shifted (n : Nat) : ch + 1 + n = ch + (n + 1) := by omega
    unfold State.storeChannels
    split
    · next i routed =>
      have apart {n : Nat} {j : ChanIdx} (later : s.route k (ch + 1 + n) = some j) : i ≠ j := by
        rintro rfl
        obtain ⟨e, valid, -, here⟩ := State.route_channel routed
        obtain ⟨f, valid', -, there⟩ := State.route_channel later
        obtain rfl : e = f := Option.some.inj (valid.symm.trans valid')
        omega
      rw [State.storeRun_of_room active run (room 0 run i rfl routed)]
      obtain ⟨rings, zero, result, kept, taken⟩ := ih (s := s.setCell i (s.cellRun i first run (s.cell i))) (ch := ch + 1)
        active fun n l j at_ later => by
          rw [State.cell_setCell_ne s _ (apart later)]
          exact room (n + 1) l j at_ (shifted n ▸ later)
      refine ⟨rings, zero, result, fun j unnamed => ?_, fun n l j at_ named => ?_⟩
      · have other : i ≠ j := fun same => unnamed 0 run rfl (same ▸ routed)
        obtain ⟨ring, track⟩ := kept j fun n l at_ later => unnamed (n + 1) l at_ (shifted n ▸ later)
        exact ⟨ring.trans (Vec.get_set_ne _ _ other), track.trans (Vec.get_set_ne _ _ other)⟩
      · cases n with
        | zero =>
          obtain rfl : run = l := Option.some.inj at_
          obtain rfl : i = j := Option.some.inj (routed.symm.trans named)
          obtain ⟨ring, track⟩ := kept i fun n l at_ later => apart later rfl
          rw [ring, track]
          exact s.cell_setCell i _
        | succ n =>
          have later : s.route k (ch + 1 + n) = some j := (shifted n).symm ▸ named
          have cell := taken n l j at_ later
          rw [State.cellRun_setCell, State.cell_setCell_ne s _ (apart later)] at cell
          exact cell
    · next unrouted =>
      obtain ⟨rings, zero, result, kept, taken⟩ := ih (s := s) (ch := ch + 1) active fun n l j at_ later =>
        room (n + 1) l j at_ (shifted n ▸ later)
      refine ⟨rings, zero, result, fun j unnamed => kept j fun n l at_ later => unnamed (n + 1) l at_ (shifted n ▸ later),
        fun n l j at_ named => ?_⟩
      cases n with
      | zero => rw [Nat.add_zero, unrouted] at named; cases named
      | succ n => exact taken n l j at_ ((shifted n).symm ▸ named)

/-! ## A SAMPLES frame (R63, R78, R168) -/

theorem readHalves_length (p : List Byte) (n i : Nat) : (readHalves p n i).length = n := by
  induction n generalizing i with
  | zero => rfl
  | succ n ih => simp [readHalves, ih]

theorem length_of_mem_readChannels {p : List Byte} {n c i : Nat} {l : List Half} (mem : l ∈ readChannels p n c i) :
    l.length = n := by
  induction c generalizing i with
  | zero => cases mem
  | succ c ih =>
    rcases List.mem_cons.1 mem with rfl | mem
    · exact readHalves_length ..
    · exact ih mem

theorem length_le_of_parseUpBody {kind : Byte} {p : List Byte} {first : Time} {chs : List (List Half)}
    (parsed : parseUpBody kind p = some (.samples first chs)) {l : List Half} (mem : l ∈ chs) : l.length ≤ 8 := by
  unfold parseUpBody at parsed
  split at parsed
  case h_1 =>
    dsimp only at parsed
    split at parsed
    · cases parsed
    · next checks =>
      obtain ⟨-, rfl⟩ := UpBody.samples.inj (Option.some.inj parsed)
      rw [length_of_mem_readChannels mem]
      omega
  all_goals (repeat' split at parsed) <;> simp at parsed

/-- A channel of an accepted frame holds at most 8 samples (R178). -/
theorem length_le_of_parseUp {frame : List Byte} {k : NodeAddr} {srq : Bool} {first : Time} {chs : List (List Half)}
    (parsed : parseUp frame = some ⟨k, srq, .samples first chs⟩) {l : List Half} (mem : l ∈ chs) : l.length ≤ 8 := by
  unfold parseUp at parsed
  repeat' split at parsed
  case h_1 body good =>
    rw [Option.some.injEq, UpFrame.mk.injEq] at parsed
    obtain ⟨-, -, rfl⟩ := parsed
    exact length_le_of_parseUpBody good mem
  all_goals cases parsed

theorem State.voteOf_of_open {s u : State} (state : u.session.state = s.session.state) (tables : u.tables = s.tables)
    (port : u.port = s.port) (k : NodeAddr) (i : ChanIdx) : u.voteOf k i = s.voteOf k i := by
  simp only [State.voteOf, State.channel?, State.sessionOpen, state, tables, port]

/-- What forwarding makes of the counts, the FORWARD class and its drops (R167, R168). -/
theorem State.forwardFrame_eq {s : State} {k : NodeAddr} (present : s.node.nodes[k].status ≠ .absent) (frame : List Byte) :
    ∃ decimation queue dropped, s.forwardFrame k frame =
        { s with port.decimation := decimation, port.forwardQ := queue, port.forwardsDropped := dropped } ∧
      (∀ i : ChanIdx, decimation[i] = (s.voteOf k i).2) ∧
      ((¬ ∃ i, (s.voteOf k i).1 = true) → queue = s.port.forwardQ ∧ dropped = s.port.forwardsDropped) ∧
      ((∃ i, (s.voteOf k i).1 = true) →
        (s.port.forwardQ.length < 32 → queue = s.port.forwardQ ++ [.forward k frame] ∧ dropped = s.port.forwardsDropped) ∧
        (32 ≤ s.port.forwardQ.length → queue = s.port.forwardQ ∧ dropped = min (s.port.forwardsDropped + 1) 65535)) := by
  have vote : (allChannels.any fun i => (s.voteOf k i).1) = true ↔ ∃ i, (s.voteOf k i).1 = true := by
    simp [allChannels, List.mem_finRange]
  unfold State.forwardFrame
  rw [if_neg present]
  by_cases voted : ∃ i, (s.voteOf k i).1 = true
  · dsimp only
    rw [if_pos (vote.2 voted)]
    unfold State.offerForward
    split
    · next room =>
      exact ⟨_, _, _, rfl, fun i => by simp, fun no => absurd voted no, fun _ => ⟨fun _ => ⟨rfl, rfl⟩, fun full =>
        absurd room (by simpa [forwardCapacity] using full)⟩⟩
    · next full =>
      exact ⟨_, _, _, rfl, fun i => by simp, fun no => absurd voted no, fun _ => ⟨fun room =>
        absurd room (by simpa [forwardCapacity] using full), fun _ => ⟨rfl, rfl⟩⟩⟩
  · dsimp only
    rw [if_neg fun h => voted (vote.1 h)]
    exact ⟨_, _, _, rfl, fun i => by simp, fun _ => ⟨rfl, rfl⟩, fun h => absurd h voted⟩

/-- What storing a frame from a present node makes of rings and tracking states (R78, R79, R100). -/
theorem State.storeFrame_eq {s : State} {k : NodeAddr} (present : s.node.nodes[k].status ≠ .absent) {first : Time}
    {chs : List (List Half)} {stored : Bool}
    (when : stored = decide (s.session.power = .active ∧ chs.length = s.node.nodes[k].channelCount))
    (short : ∀ l ∈ chs, l.length ≤ 8)
    (room : s.sessionOpen = false → stored = true → ∀ (i : ChanIdx) z, s.load.zero[i] = some z → z.count ≤ 248) :
    ∃ rings zero, s.storeFrame k first chs = { s with rings := rings, load.zero := zero } ∧
      (stored = false → rings = s.rings ∧ zero = s.load.zero) ∧
      (∀ i : ChanIdx, (∀ e, s.channel? i = some e → e.node ≠ k ∨ chs.length ≤ e.channel) →
        rings[i] = s.rings[i] ∧ zero[i] = s.load.zero[i]) ∧
      ∀ (i : ChanIdx) (e : Channel) (l : List Half), stored = true → s.channel? i = some e → e.node = k →
        chs[e.channel]? = some l → (∀ j f, s.channel? j = some f → f.node = k → f.channel = e.channel → j = i) →
        (rings[i], zero[i]) =
          l.zipIdx.foldl (fun a x => s.cellStep i (first + micros (250 * x.2)) a x.1) (s.rings[i], s.load.zero[i]) := by
  cases stored with
  | false =>
    have skipped : s.session.power = .standby ∨ chs.length ≠ s.node.nodes[k].channelCount := by
      cases power : s.session.power
      · exact .inr fun same => by simp [-Fin.getElem_fin, power, same] at when
      · exact .inl rfl
    refine ⟨_, _, ?_, fun _ => ⟨rfl, rfl⟩, fun _ _ => ⟨rfl, rfl⟩, fun _ _ _ h => by cases h⟩
    unfold State.storeFrame
    rw [if_pos (.inr skipped)]
  | true =>
    obtain ⟨active, count⟩ := of_decide_eq_true when.symm
    have fits (n : Nat) (l : List Half) (i : ChanIdx) (at_ : chs[n]? = some l) (_ : s.route k (0 + n) = some i) :
        s.roomFor (s.cell i) l.length := fun closed z tracked => by
      have free := room closed rfl i z tracked
      have few := short l (List.mem_of_getElem? at_)
      omega
    obtain ⟨rings, zero, result, kept, taken⟩ := State.storeChannels_of_room (first := first) active fits
    refine ⟨rings, zero, ?_, nofun, fun i unnamed => kept i fun n l at_ routed => ?_,
      fun i e l _ valid node at_ unique => ?_⟩
    · unfold State.storeFrame
      rw [if_neg (by simp [-Fin.getElem_fin, present, active, count]), result]
    · obtain ⟨e, valid, node, channel⟩ := State.route_channel routed
      obtain ⟨inside, -⟩ := List.getElem?_eq_some_iff.1 at_
      rcases unnamed e valid with other | beyond
      · exact other node
      · omega
    · have routed : s.route k (0 + e.channel) = some i := by
        rw [Nat.zero_add]
        exact State.route_of_unique valid node unique
      rw [taken e.channel l i at_ routed, ← State.cellRun_eq_foldl]
      simp [micros, State.cell]

/-- A node's last-frame time plays no part in the usability of an index (R81). -/
theorem State.unusable_touchNode (s : State) (k : NodeAddr) (srq : Bool) (i : ChanIdx) :
    (s.touchNode k srq).unusable i = s.unusable i := by
  rw [State.touchNode_eq]
  unfold State.unusable State.channel?
  dsimp only
  cases s.tables.active.channels[i] with
  | valid e =>
    by_cases own : k = e.node
    · subst own
      simp only [Vec.get_set_self]
      rfl
    · simp only [Vec.get_set_ne _ _ own]
  | _ => rfl

theorem State.storeFrame_of_absent {s : State} {k : NodeAddr} (absent : s.node.nodes[k].status = .absent) (first : Time)
    (chs : List (List Half)) : s.storeFrame k first chs = s :=
  if_pos (.inl absent)

theorem State.forwardFrame_of_absent {s : State} {k : NodeAddr} (absent : s.node.nodes[k].status = .absent)
    (frame : List Byte) : s.forwardFrame k frame = s :=
  if_pos absent

/-- Settles O39: the touched state stores the frame channel by channel, then its entries vote; a SILENT node's frame is
that of the node found ONLINE. -/
theorem samplesAreStored : Obligations.SamplesAreStored := by
  refine ⟨?_, ?_, fun e n isOpen => ⟨fun mode => ?_, fun mode => ?_, fun mode => ?_, fun mode closed => ?_,
    fun mode opened more => ?_, fun mode opened last => ?_⟩⟩
  · intro s dt frame k srq first chs parsed online u stored vote forwarded offer room
    have known : u.frameFrom k false = u := State.frameFrom_known false (.inl online)
    obtain ⟨v, touched⟩ : ∃ v, v = u.touchNode k srq := ⟨_, rfl⟩
    rw [State.touchNode_eq] at touched
    have read : v.node.nodes[k] = { s.node.nodes[k] with lastFrame := some u.clock } := by
      rw [touched]
      exact Vec.get_set_self ..
    have present : v.node.nodes[k].status ≠ .absent := by rw [read]; simp [-Fin.getElem_fin, online]
    obtain ⟨rings, zero, stores, unstored, unnamed, taken⟩ := State.storeFrame_eq (stored := stored) (first := first)
      present (by rw [read, touched]; rfl) (fun l => length_le_of_parseUp parsed) (by rw [touched]; exact room)
    have open' : ({ v with rings := rings, load.zero := zero } : State).session.state = s.session.state := by rw [touched]; rfl
    obtain ⟨decimation, queue, dropped, forwards, counts, unvoted, voted⟩ :=
      State.forwardFrame_eq (s := { v with rings := rings, load.zero := zero }) (by exact present) frame
    have votes (i : ChanIdx) : State.voteOf { v with rings := rings, load.zero := zero } k i = vote i := by
      rw [State.voteOf_of_open open' (by rw [touched]; rfl) (by rw [touched]; rfl)]
      rfl
    have row : exec (.samples dt frame) s = .next (((u.touchNode k srq).storeFrame k first chs).forwardFrame k frame) := by
      simp only [exec, execSamples, parsed]
      rw [known]
    simp only [votes] at counts unvoted voted
    refine ⟨_, row, ?_⟩
    rw [State.touchNode_eq, ← touched, stores, forwards]
    have unusable (i : ChanIdx) : v.unusable i = s.unusable i := by
      rw [touched, ← State.touchNode_eq, State.unusable_touchNode]
      rfl
    have offers (i : ChanIdx) : v.offered i = offer i := by
      funext z y
      simp only [State.offered, unusable]
      rw [touched]
      rfl
    subst touched
    refine ⟨rfl, unstored, unnamed, fun i e l isStored valid node at_ unique => ?_, counts, unvoted,
      fun h => (voted h).1, fun h => (voted h).2⟩
    refine (taken i e l isStored valid node at_ unique).trans ?_
    simp only [State.cellStep, offers]
    rfl
  · intro s dt frame k srq first chs parsed u e
    refine ⟨fun silent => ?_, fun absent => ?_⟩
    · simp only [exec, execSamples, parsed]
      obtain ⟨w, base⟩ : ∃ w, w = (s.advance dt).frameFrom k false := ⟨_, rfl⟩
      have status : (s.advance dt).node.nodes[k].status = .silent := silent
      have found : w = { u with
          node.nodes := s.node.nodes.set k { e with status := .online, owed := true }
          node.ready := s.node.ready ++ (if s.session.power = .standby then [.halt (some k)] else [])
          session :=
            if e.type = some .thermal ∧ s.session.thermalSeen = false then
              if s.session.settleState = .waiting then { s.session with
                thermalSeen := true, settleState := .settling
                settle := some ⟨u.clock, seconds (s.constant (·.settle) 8)⟩ }
              else { s.session with thermalSeen := true }
            else s.session } := by
        rw [base]
        simp only [State.frameFrom, status, State.becomeOnline, State.haltIfAsleep_eq, State.thermalOnline_eq]
        by_cases thermal : e.type = some .thermal
        · refine (if_pos (by exact thermal)).trans ?_
          by_cases seen : s.session.thermalSeen = false
          · rw [if_pos (⟨thermal, seen⟩ : e.type = some .thermal ∧ s.session.thermalSeen = false)]
            exact congrArg (State.mk _ _ · ..) (if_pos (by exact seen))
          · rw [if_neg (fun h => seen h.2 : ¬ (e.type = some .thermal ∧ s.session.thermalSeen = false))]
            exact congrArg (State.mk _ _ · ..) (if_neg (by exact seen))
        · rw [if_neg (fun h => thermal h.1 : ¬ (e.type = some .thermal ∧ s.session.thermalSeen = false))]
          exact if_neg (by exact thermal)
      have known : w.frameFrom k false = w := by
        refine State.frameFrom_known false (.inl ?_)
        rw [found]
        exact congrArg NodeEntry.status (Vec.get_set_self ..)
      rw [← base, ← known, found]
      rfl
    · simp only [exec, execSamples, parsed]
      have pending : (s.advance dt).frameFrom k false = (s.advance dt).updNode k fun e => { e with identPending := true } := by
        have status : (s.advance dt).node.nodes[k].status = .absent := absent
        simp only [State.frameFrom, status]
        exact if_neg (by simp)
      rw [pending]
      obtain ⟨v, touched⟩ : ∃ v, v = ((s.advance dt).updNode k fun e => { e with identPending := true }).touchNode k srq :=
        ⟨_, rfl⟩
      have written : v = { u with
          node.nodes := s.node.nodes.set k { e with identPending := true, lastFrame := some u.clock }
          node.pollWanted := s.node.pollWanted || srq } := by
        rw [touched, State.touchNode_eq]
        simp only [State.updNode, Vec.set_get_set _ k _ fun e : NodeEntry => { e with lastFrame := some (s.advance dt).clock }]
        rfl
      have status : v.node.nodes[k].status = .absent := by
        rw [written]
        exact (congrArg NodeEntry.status (Vec.get_set_self ..)).trans absent
      rw [← touched, State.storeFrame_of_absent status, State.forwardFrame_of_absent status, written]
  · simp [forwardVote, mode]
  · simp [forwardVote, mode]
  · simp [forwardVote, mode]
  · simp [forwardVote, mode, closed]
  · simp [forwardVote, mode, opened, more]
  · simp [forwardVote, mode, opened, last]

end Sys2Proof.Machine

/-!
PROOFS. Chapters 5 and 6, first part: the parts of a measurement, their windows and their reads.
-/

namespace Sys2Proof.Machine

/-! ## Reads (R82, R86, R111) -/

theorem ringReached_eq (ring : List Sample) (b : Time) :
    ringReached ring b = ring.getLast?.any fun n => !older n.time (b - 250) := by
  unfold ringReached
  cases ring.getLast? <;> rfl

theorem State.readAnswer_eq (s : State) (i : ChanIdx) (a b : Time) : s.readAnswer i a b =
    { unusable := s.unusable i, drift := (s.load.zero[i]).any (·.drift), window := readWindow s.rings[i] a b } := by
  unfold State.readAnswer
  cases s.load.zero[i] <;> rfl

/-- A bay just formed and read where its ring has reached its window: nothing but its read changes. -/
theorem LoadBay.readIfReached_of_waiting (s : State) {b : LoadBay} (waiting : b.read = none) :
    b.readIfReached s = { b with
      read := if ringReached s.rings[b.index] b.stop then some (s.readAnswer b.index b.start b.stop) else none } := by
  unfold LoadBay.readIfReached
  cases b
  subst waiting
  dsimp only
  split
  · next h => rw [if_pos h.2]; rfl
  · next h => rw [if_neg fun r => h ⟨rfl, r⟩]

theorem Scanner.readIfReached_of_waiting (s : State) {c : Scanner} (waiting : c.read = none) :
    c.readIfReached s = { c with
      read := if ringReached s.rings[c.index] c.stop then some (s.readAnswer c.index c.start c.stop) else none } := by
  unfold Scanner.readIfReached
  cases c
  subst waiting
  dsimp only
  split
  · next h => rw [if_pos h.2]; rfl
  · next h => rw [if_neg fun r => h ⟨rfl, r⟩]

/-! ## Configured bays and scanners (R84, R88, R89, R105, R110) -/

theorem State.findChannel_valid {s : State} {p : Channel → Bool} {i : ChanIdx} (found : s.findChannel p = some i) :
    ∃ e, s.channel? i = some e ∧ p e = true := by
  have hit := List.find?_some found
  split at hit
  · next e valid => exact ⟨e, valid, hit⟩
  · cases hit

theorem State.findChannel_of_valid {s : State} {p : Channel → Bool} {i : ChanIdx} {e : Channel}
    (valid : s.channel? i = some e) (picked : p e = true) : ∃ j, s.findChannel p = some j := by
  refine Option.isSome_iff_exists.1 (List.find?_isSome.2 ⟨i, List.mem_finRange i, ?_⟩)
  simp only [valid]
  exact picked

/-- A configured bay with its windows, formed from its index and its start. -/
def SiteConstants.bayAt (sc : SiteConstants) (a : AxleData) (rail : Rail) (b : BayNo) (i : ChanIdx) (x : Nat) : LoadBay :=
  let d := edges a.dir sc.lab x sc.bayLength
  let start := timeAt a.tE a.dt sc.lab d.1
  let stop := timeAt a.tE a.dt sc.lab d.2
  let t := micros (trim (stop - start).toNat sc.core)
  { rail, bay := b, index := i, start, stop, coreStart := start + t, coreStop := stop - t }

theorem State.loadBay_eq_some_iff {s : State} {sc : SiteConstants} {a : AxleData} {rail : Rail} {b : BayNo} {y : LoadBay} :
    s.loadBay sc a rail b = some y ↔
      ∃ i x, s.bayIndex rail b = some i ∧ (sc.bayStart.get rail)[b] = some x ∧ sc.bayAt a rail b i x = y := by
  unfold State.loadBay
  cases s.bayIndex rail b with
  | none => simp
  | some i => cases start : (sc.bayStart.get rail)[b] <;> simp [SiteConstants.bayAt]

/-- A configured scanner with its window, formed from its index and its position. -/
def SiteConstants.scannerAt (sc : SiteConstants) (a : AxleData) (rail : Rail) (i : ChanIdx) (x : Nat) : Scanner :=
  let d := match a.dir with
    | .forward => x
    | .reverse => sc.lab - x
  { rail, index := i, start := timeAt a.tE a.dt sc.lab (d - sc.halfWindow), stop := timeAt a.tE a.dt sc.lab (d + sc.halfWindow) }

theorem State.scanner_eq_some_iff {s : State} {sc : SiteConstants} {a : AxleData} {rail : Rail} {y : Scanner} :
    s.scanner sc a rail = some y ↔
      ∃ i x, s.scannerIndex rail = some i ∧ sc.scanner.get rail = some x ∧ sc.scannerAt a rail i x = y := by
  unfold State.scanner
  cases s.scannerIndex rail with
  | none => simp
  | some i =>
    cases sc.scanner.get rail with
    | none => simp
    | some x =>
      refine ⟨fun formed => ⟨i, x, rfl, rfl, Option.some.inj formed⟩, ?_⟩
      rintro ⟨_, _, ⟨⟩, ⟨⟩, rfl⟩
      rfl

theorem State.mem_loadBays {s : State} {sc : SiteConstants} {a : AxleData} {y : LoadBay} :
    y ∈ s.loadBays sc a ↔ ∃ rail b, s.loadBay sc a rail b = some y := by
  have every (b : BayNo) : b ∈ allBays := by revert b; decide
  simp only [State.loadBays, List.mem_append, List.mem_filterMap, every, true_and]
  constructor
  · rintro (⟨b, formed⟩ | ⟨b, formed⟩)
    · exact ⟨.r1, b, formed⟩
    · exact ⟨.r2, b, formed⟩
  · rintro ⟨_ | _, b, formed⟩
    · exact .inl ⟨b, formed⟩
    · exact .inr ⟨b, formed⟩

theorem State.loadBay_place {s : State} {sc : SiteConstants} {a : AxleData} {rail : Rail} {b : BayNo} {y : LoadBay}
    (formed : s.loadBay sc a rail b = some y) : y.rail = rail ∧ y.bay = b := by
  obtain ⟨i, x, -, -, rfl⟩ := State.loadBay_eq_some_iff.1 formed
  exact ⟨rfl, rfl⟩

/-- Bays stand by rail and then by bay (R84). -/
theorem State.loadBays_ordered (s : State) (sc : SiteConstants) (a : AxleData) :
    (s.loadBays sc a).Pairwise fun x y => (x.rail = .r1 ∧ y.rail = .r2) ∨ (x.rail = y.rail ∧ x.bay < y.bay) := by
  have ascending (rail : Rail) : (allBays.filterMap (s.loadBay sc a rail)).Pairwise fun x y =>
      (x.rail = .r1 ∧ y.rail = .r2) ∨ (x.rail = y.rail ∧ x.bay < y.bay) := by
    refine List.Pairwise.filterMap _ (fun b c order x formed y formed' => ?_) (show allBays.Pairwise (· < ·) by decide)
    obtain ⟨rail1, bay1⟩ := State.loadBay_place formed
    obtain ⟨rail2, bay2⟩ := State.loadBay_place formed'
    exact .inr ⟨rail1.trans rail2.symm, by rwa [bay1, bay2]⟩
  refine List.pairwise_append.2 ⟨ascending .r1, ascending .r2, fun x first y second => .inl ?_⟩
  obtain ⟨b, -, formed⟩ := List.mem_filterMap.1 first
  obtain ⟨c, -, formed'⟩ := List.mem_filterMap.1 second
  exact ⟨(State.loadBay_place formed).1, (State.loadBay_place formed').1⟩

theorem State.mem_scanners {s : State} {sc : SiteConstants} {a : AxleData} {y : Scanner} :
    y ∈ (s.scanner sc a .r1).toList ++ (s.scanner sc a .r2).toList ↔ ∃ rail, s.scanner sc a rail = some y := by
  rw [List.mem_append, Option.mem_toList, Option.mem_toList]
  exact ⟨fun h => h.elim (⟨.r1, ·⟩) (⟨.r2, ·⟩), fun ⟨rail, formed⟩ => by
    cases rail
    · exact .inl formed
    · exact .inr formed⟩

theorem State.scanners_ordered (s : State) (sc : SiteConstants) (a : AxleData) :
    ((s.scanner sc a .r1).toList ++ (s.scanner sc a .r2).toList).Pairwise fun x y => x.rail = .r1 ∧ y.rail = .r2 := by
  have place {rail : Rail} {y : Scanner} (formed : y ∈ (s.scanner sc a rail).toList) : y.rail = rail := by
    obtain ⟨i, x, -, -, rfl⟩ := State.scanner_eq_some_iff.1 (Option.mem_toList.1 formed)
    rfl
  have one (o : Option Scanner) (p : Scanner → Scanner → Prop) : o.toList.Pairwise p := by cases o <;> simp
  exact List.pairwise_append.2 ⟨one .., one .., fun x first y second => ⟨place first, place second⟩⟩

theorem axleAbsence_of_moving {a : AxleData} (still : a.stopFlag = false) (agree : a.headDisagree = false) {v : Int}
    {m : Marks} (speed : a.speed = .present v m) (outside : Int → Bool) :
    axleAbsence a outside = if outside v then some .speedRange else none := by
  simp [axleAbsence, still, agree, speed]

theorem State.newLoadPart_eq (s : State) (sc : SiteConstants) (a : AxleData) :
    s.newLoadPart sc a = ⟨a, axleAbsence a (outsideRange sc),
      if axleAbsence a (outsideRange sc) = none then (s.loadBays sc a).map (LoadBay.readIfReached s) else []⟩ := by
  unfold State.newLoadPart
  cases axleAbsence a (outsideRange sc) <;> rfl

theorem State.newBearingPart_eq (s : State) (sc : SiteConstants) (a : AxleData) :
    s.newBearingPart sc a = ⟨a, axleAbsence a belowBearing,
      if axleAbsence a belowBearing = none then
        ((s.scanner sc a .r1).toList ++ (s.scanner sc a .r2).toList).map (Scanner.readIfReached s) else []⟩ := by
  unfold State.newBearingPart
  cases axleAbsence a belowBearing <;> rfl

/-- Settles O41: a part's list is its configured bays or scanners, each read where its ring has reached it; a read row
reads those of its axle that wait. -/
theorem partsAreRead : Obligations.PartsAreRead := by
  unfold Obligations.PartsAreRead
  intro answer arrived number
  have answers (s : State) (i : ChanIdx) (a b : Time) : s.readAnswer i a b = answer s i a b := State.readAnswer_eq ..
  have reachedBy (s : State) (i : ChanIdx) (b : Time) : ringReached s.rings[i] b = arrived s i b := ringReached_eq ..
  have numbers (rail : Rail) : railNumber rail = number rail := by cases rail <;> rfl
  refine ⟨?_, ?_⟩
  · intro s sc a reaches l b
    have loadPart : l = ⟨a, axleAbsence a (outsideRange sc), _⟩ := s.newLoadPart_eq sc a
    have bearingPart : b = ⟨a, axleAbsence a belowBearing, _⟩ := s.newBearingPart_eq sc a
    rw [loadPart, bearingPart]
    refine ⟨rfl, rfl, fun stop => ?_, fun still disagree => ?_, fun v m still agree speed => ?_, fun absent => ?_,
      fun absent => ?_, fun whole => ?_, fun whole => ?_⟩
    · simp [axleAbsence, stop]
    · simp [axleAbsence, still, disagree]
    · simp [axleAbsence_of_moving still agree speed, outsideRange, belowBearing]
    · exact if_neg absent
    · exact if_neg absent
    · dsimp only at whole ⊢
      rw [if_pos whole]
      have place (y : LoadBay) : (y.readIfReached s).rail = y.rail ∧ (y.readIfReached s).bay = y.bay := by
        unfold LoadBay.readIfReached
        split <;> exact ⟨rfl, rfl⟩
      refine ⟨?_, fun y mem => ?_, fun rail bay i e x valid kind onRail atBay start => ?_⟩
      · simp only [List.pairwise_map, place]
        exact s.loadBays_ordered sc a
      · obtain ⟨y, formed, rfl⟩ := List.mem_map.1 mem
        obtain ⟨rail, bay, formed⟩ := State.mem_loadBays.1 formed
        obtain ⟨i, x, index, start, rfl⟩ := State.loadBay_eq_some_iff.1 formed
        obtain ⟨e, valid, named⟩ := State.findChannel_valid index
        obtain ⟨kind, onRail, atBay⟩ := of_decide_eq_true named
        rw [LoadBay.readIfReached_of_waiting s rfl, answers, reachedBy]
        refine ⟨e, x, valid, kind, onRail.trans (numbers rail), atBay, start, ?_, ?_, rfl, rfl, rfl⟩ <;>
          cases dir : a.dir <;> simp [SiteConstants.bayAt, edges, timeAt, dir, reaches]
      · obtain ⟨j, index⟩ := State.findChannel_of_valid
          (p := fun e => decide (e.kind = .load ∧ e.rail = railNumber rail ∧ e.bay = bay.val + 1)) valid
          (by simp [kind, onRail, atBay, numbers])
        exact ⟨_, List.mem_map_of_mem (State.mem_loadBays.2
          ⟨rail, bay, State.loadBay_eq_some_iff.2 ⟨j, x, index, start, rfl⟩⟩), place _⟩
    · dsimp only at whole ⊢
      rw [if_pos whole]
      have place (y : Scanner) : (y.readIfReached s).rail = y.rail := by
        unfold Scanner.readIfReached
        split <;> rfl
      refine ⟨?_, fun y mem => ?_, fun rail i e x valid kind onRail position => ?_⟩
      · simp only [List.pairwise_map, place]
        exact s.scanners_ordered sc a
      · obtain ⟨y, formed, rfl⟩ := List.mem_map.1 mem
        obtain ⟨rail, formed⟩ := State.mem_scanners.1 formed
        obtain ⟨i, x, index, position, rfl⟩ := State.scanner_eq_some_iff.1 formed
        obtain ⟨e, valid, named⟩ := State.findChannel_valid index
        obtain ⟨kind, onRail⟩ := of_decide_eq_true named
        rw [Scanner.readIfReached_of_waiting s rfl, answers, reachedBy]
        refine ⟨e, x, valid, kind, onRail.trans (numbers rail), position, ?_, ?_, rfl⟩ <;>
          cases dir : a.dir <;> simp [SiteConstants.scannerAt, timeAt, dir, reaches]
      · obtain ⟨j, index⟩ := State.findChannel_of_valid
          (p := fun e => decide (e.kind = .bearing ∧ e.rail = railNumber rail)) valid (by simp [kind, onRail, numbers])
        exact ⟨_, List.mem_map_of_mem (State.mem_scanners.2
          ⟨rail, State.scanner_eq_some_iff.2 ⟨j, x, index, position, rfl⟩⟩), place _⟩
  · intro s dt k u readBay readScanner loads bearings
    have bayRead (b : LoadBay) : b.readNow u = readBay b := by simp only [LoadBay.readNow, answers]; rfl
    have scannerRead (c : Scanner) : c.readNow u = readScanner c := by simp only [Scanner.readNow, answers]; rfl
    refine ⟨fun rail bay => ?_, ?_, fun rail => ?_, ?_⟩
    · have read (b : LoadBay) : (if b.rail = rail ∧ b.bay = bay then b.readIfReached u else b) =
          if b.rail = rail ∧ b.bay = bay ∧ b.read = none ∧ arrived u b.index b.stop = true then readBay b else b := by
        rw [← bayRead, ← reachedBy]
        unfold LoadBay.readIfReached
        split_ifs <;> tauto
      simp only [exec, execBayRead, State.updLoadPart, loads, ← read]
      rfl
    · have part (p : LoadPart) : (if reached u.clock (p.axle.start + micros readLimit) then
            { p with bays := p.bays.map fun b => if b.read = none then b.readNow u else b } else p) = { p with
          bays := p.bays.map fun b =>
            if b.read = none ∧ reached u.clock (p.axle.start + 8000) = true then readBay b else b } := by
        rw [show p.axle.start + micros readLimit = p.axle.start + 8000 from rfl]
        cases reached u.clock (p.axle.start + 8000)
        · simp
        · simp only [if_true, and_true, bayRead]
      simp only [exec, execLoadReadLimit, State.updLoadPart, loads, ← part]
      rfl
    · have read (c : Scanner) : (if c.rail = rail then c.readIfReached u else c) =
          if c.rail = rail ∧ c.read = none ∧ arrived u c.index c.stop = true then readScanner c else c := by
        rw [← scannerRead, ← reachedBy]
        unfold Scanner.readIfReached
        split_ifs <;> tauto
      simp only [exec, execScannerRead, State.updBearingPart, bearings, ← read]
      rfl
    · have part (p : BearingPart) : (if reached u.clock (p.axle.start + micros readLimit) then
            { p with scanners := p.scanners.map fun c => if c.read = none then c.readNow u else c } else p) = { p with
          scanners := p.scanners.map fun c =>
            if c.read = none ∧ reached u.clock (p.axle.start + 8000) = true then readScanner c else c } := by
        rw [show p.axle.start + micros readLimit = p.axle.start + 8000 from rfl]
        cases reached u.clock (p.axle.start + 8000)
        · simp
        · simp only [if_true, and_true, scannerRead]
      simp only [exec, execBearingReadLimit, State.updBearingPart, bearings, ← part]
      rfl

end Sys2Proof.Machine

/-!
PROOFS. Chapters 5 and 6, second part: the completion of a part.
-/

namespace Sys2Proof.Machine

theorem State.raiseAll_append (s : State) (src : Source) (l m : List AlertKind) :
    s.raiseAll src (l ++ m) = (s.raiseAll src l).raiseAll src m := by
  induction l generalizing s with
  | nil => rfl
  | cons k l ih => exact ih _

theorem State.raiseAll_if (s : State) (src : Source) (c : Bool) (k : AlertKind) :
    s.raiseAll src (if c then [k] else []) = if c then s.raise k src else s := by
  cases c <;> rfl

theorem State.axleMeasured_of_record {s : State} {k : Nat} {r : AxleRecord} (found : s.record? k = some r) :
    s.axleMeasured k = match r.vehicle with
      | none => s
      | some v => s.judgeIfReady v := by
  simp only [State.axleMeasured, found, Option.bind_some]
  cases r.vehicle <;> rfl

/-- The end of a part while the other part of the axle still runs (R54). -/
theorem State.partDone_of_other {s : State} {k : Nat} (other : (s.loadPart? k).isSome ∨ (s.bearingPart? k).isSome) :
    s.partDone k = s :=
  if_pos other

/-- The end of the second part of an axle (R54). -/
theorem State.partDone_of_last {s : State} {k : Nat} (load : s.loadPart? k = none) (bearing : s.bearingPart? k = none) :
    s.partDone k =
      let t : State := { s.updRecord k fun r => { r with status := .done } with axles.inFlight := s.axles.inFlight - 1 }
      match t.record? k with
      | none => t
      | some r => match r.vehicle with
        | none => t.offerResult (.axleResult s.session.seq r)
        | some v => (t.offerResult (.axleResult s.session.seq r)).judgeIfReady v := by
  obtain ⟨t, marked⟩ : ∃ t : State, t =
    { s.updRecord k fun r => { r with status := .done } with axles.inFlight := s.axles.inFlight - 1 } := ⟨_, rfl⟩
  simp only [State.partDone, load, bearing, Option.isSome_none, Bool.false_eq_true, or_self, if_false, ← marked]
  cases found : t.record? k with
  | none => rfl
  | some r =>
    have kept : (t.offerResult (.axleResult s.session.seq r)).record? k = some r := by
      simpa only [State.record?, State.offerResult_frame] using found
    exact State.axleMeasured_of_record kept

theorem State.loadPart?_ordinal {s : State} {k : Nat} {p : LoadPart} (found : s.loadPart? k = some p) :
    p.axle.ordinal = k := by
  simpa using List.find?_some found

theorem State.bearingPart?_ordinal {s : State} {k : Nat} {p : BearingPart} (found : s.bearingPart? k = some p) :
    p.axle.ordinal = k := by
  simpa using List.find?_some found

/-- Settles O42: a part with every read made completes by its row; the raises of its check are made one by one. -/
theorem partsComplete : Obligations.PartsComplete := by
  intro s dt k sc site u src critical finish
  have done (t : State) (other : Bool) (seq : t.session = s.session)
      (last : other = false → t.loadPart? k = none ∧ t.bearingPart? k = none)
      (first : other = true → (t.loadPart? k).isSome ∨ (t.bearingPart? k).isSome) : t.partDone k = finish t other := by
    cases other with
    | true => exact State.partDone_of_other (first rfl)
    | false =>
      obtain ⟨load, bearing⟩ := last rfl
      rw [State.partDone_of_last load bearing, seq]
      rfl
  have site' : u.site = some sc := site
  refine ⟨?_, ?_⟩
  · intro p part reads l q t0
    have ordinal := State.loadPart?_ordinal part
    have part' : (s.advance dt).loadPart? k = some p := part
    have allRead : (p.bays.all fun b => b.read.isSome) = true :=
      List.all_eq_true.2 fun b mem => Option.isSome_iff_ne_none.2 (reads b mem)
    have row : exec (.loadPartComplete dt k) s =
        .next (((t0.updRecord k fun r => { r with load := l, axleLoad := q }).raiseAll src
          (loadCheckKinds sc l q)).partDone k) := by
      simp only [exec, execLoadPartComplete, part', allRead, if_true, State.completeLoad, ordinal]
      rw [site']
      rfl
    have loads (v : State) (same : v.load = t0.load) : v.loadPart? k = none := by
      simp [State.loadPart?, same, t0]
    have bearings (v : State) (same : v.thermal = t0.thermal) : v.bearingPart? k = s.bearingPart? k := by
      simp only [State.bearingPart?, same]
      rfl
    rw [row]
    refine congrArg _ ((done _ (s.bearingPart? k).isSome (by simp [t0, u]) (fun other => ?_) fun other => ?_).trans
      (congrArg (finish · _) ?_))
    · exact ⟨loads _ (by simp), (bearings _ (by simp)).trans (by simpa using other)⟩
    · exact .inr (by rw [bearings _ (by simp)]; exact other)
    · simp only [loadCheckKinds, State.raiseAll_append, State.raiseAll_if]
      rfl
  · intro p part reads gone b t0
    have ordinal := State.bearingPart?_ordinal part
    have part' : (s.advance dt).bearingPart? k = some p := part
    have allRead : (p.scanners.all fun c => c.read.isSome) = true :=
      List.all_eq_true.2 fun b mem => Option.isSome_iff_ne_none.2 (reads b mem)
    have row : exec (.bearingPartComplete dt k) s =
        .next (((t0.updRecord k fun r => { r with bearing := b, sideDiff := sideDifference b.r1.rise b.r2.rise }).raiseAll src
          (bearingCheckKinds sc b)).partDone k) := by
      simp only [exec, execBearingPartComplete, part', allRead, if_true, State.completeBearing, ordinal]
      rw [site']
      rfl
    have bearings (v : State) (same : v.thermal = t0.thermal) : v.bearingPart? k = none := by
      simp [State.bearingPart?, same, t0]
    have loads (v : State) (same : v.load = t0.load) : v.loadPart? k = s.loadPart? k := by
      simp only [State.loadPart?, same]
      rfl
    rw [row]
    refine congrArg _ ((done _ (s.loadPart? k).isSome (by simp [t0, u]) (fun other => ?_) fun other => ?_).trans
      (congrArg (finish · _) ?_))
    · exact ⟨(loads _ (by simp)).trans (by simpa using other), bearings _ (by simp)⟩
    · exact .inl (by rw [loads _ (by simp)]; exact other)
    · simp only [bearingCheckKinds, State.raiseAll_append, State.raiseAll_if]
      rfl

end Sys2Proof.Machine

/-!
PROOFS. Chapters 5 and 6, third part: the results of a part.
-/

namespace Sys2Proof.Machine

/-! ## Rounded means (R91, R92) -/

theorem roundDiv_eq (n : Int) (d : Nat) :
    roundDiv n d = if 0 ≤ n then (2 * n + d) / (2 * d) else -((-(2 * n) + d) / (2 * d)) := by
  unfold roundDiv
  split
  · next positive =>
    have value : (n.toNat : Int) = n := Int.toNat_of_nonneg positive
    rw [Int.ofNat_eq_natCast]
    push_cast [value]
    rfl
  · next negative =>
    have value : ((-n).toNat : Int) = -n := Int.toNat_of_nonneg (by omega)
    rw [Int.ofNat_eq_natCast]
    push_cast [value]
    ring_nf

theorem roundDiv_le {n M : Int} {d : Nat} (some : 0 < d) (bound : n ≤ d * M) : roundDiv n d ≤ M := by
  have wide : (0 : Int) < 2 * d := by omega
  rw [roundDiv_eq]
  split
  · refine Int.lt_add_one_iff.1 ((Int.ediv_lt_iff_lt_mul wide).2 ?_)
    linarith
  · have least : -M ≤ (-(2 * n) + d) / (2 * d) := (Int.le_ediv_iff_mul_le wide).2 (by linarith)
    omega

theorem le_roundDiv {n m : Int} {d : Nat} (some : 0 < d) (bound : d * m ≤ n) : m ≤ roundDiv n d := by
  have wide : (0 : Int) < 2 * d := by omega
  rw [roundDiv_eq]
  split
  · refine (Int.le_ediv_iff_mul_le wide).2 ?_
    linarith
  · have most : (-(2 * n) + d) / (2 * d) < -m + 1 := (Int.ediv_lt_iff_lt_mul wide).2 (by linarith)
    omega

/-- A rounded mean lies between any two bounds of its values. -/
theorem roundDiv_mean_le {l : List Int} (some : l ≠ []) {M : Int} (bound : ∀ x ∈ l, x ≤ M) :
    roundDiv (sumInt l) l.length ≤ M := by
  have total := List.sum_le_card_nsmul l M bound
  rw [nsmul_eq_mul] at total
  exact roundDiv_le (List.length_pos_iff.2 some) (by rwa [sumInt_eq_sum])

theorem le_roundDiv_mean {l : List Int} (some : l ≠ []) {m : Int} (bound : ∀ x ∈ l, m ≤ x) :
    m ≤ roundDiv (sumInt l) l.length := by
  have total := List.card_nsmul_le_sum l m bound
  rw [nsmul_eq_mul] at total
  exact le_roundDiv (List.length_pos_iff.2 some) (by rwa [sumInt_eq_sum])

/-! ## The load results of a rail (R90 to R94) -/

theorem State.loadResults_of_whole {s : State} {p : LoadPart} {r : Absence} (whole : p.whole = some r) (rail : Rail) :
    (s.loadResults p).get rail = absentLoad r := by
  simp only [State.loadResults, whole]
  cases rail <;> rfl

theorem State.loadResults_of_read {s : State} {p : LoadPart} (whole : p.whole = none) (rail : Rail) :
    (s.loadResults p).get rail =
      railLoad p.axle.unsteady ((p.bays.filter fun b => decide (b.rail = rail)).map s.bayView) := by
  simp only [State.loadResults, whole]
  cases rail <;> rfl

/-- The means of a rail's bays that have one. -/
def bayMeans (vs : List BayView) : List Int := vs.filterMap fun v => v.mean.value?

theorem staticLoad_eq (unsteady : Bool) (vs : List BayView) :
    staticLoad unsteady vs = if bayMeans vs = [] then .absent (staticReason vs)
      else .present (roundDiv (sumInt (bayMeans vs)) (bayMeans vs).length)
        { unsteady, fewBays := decide ((bayMeans vs).length = 1), drift := vs.any (·.mean.marks.drift) } := by
  have means : (vs.map (·.mean)).filterMap (·.value?) = bayMeans vs := List.filterMap_map ..
  simp only [staticLoad, means, List.any_map]
  rfl

/-- A bay's mean, where no line of Table 5.4 but the last applies (R90, R91). -/
theorem BayView.mean_of_good {v : BayView} (usable : v.usable = true) (fresh : v.stale = false)
    (clean : v.core.any (·.clipped) = false) (long : 8 ≤ v.core.length) :
    v.mean = .present (clamp 0 13000 (roundDiv (sumInt (v.core.map (·.value))) v.core.length)) { drift := v.drift } := by
  unfold BayView.mean
  rw [if_neg (by simp [usable]), if_neg (by simp [fresh]), if_neg (by simp [clean]), if_neg (by omega)]

theorem BayView.mean_good {v : BayView} {m : Int} (mean : v.mean.value? = some m) :
    v.usable = true ∧ v.stale = false ∧ 8 ≤ v.core.length ∧
      m = clamp 0 13000 (roundDiv (sumInt (v.core.map (·.value))) v.core.length) := by
  unfold BayView.mean at mean
  split at mean
  · cases mean
  next usable =>
  split at mean
  · cases mean
  next fresh =>
  split at mean
  · cases mean
  split at mean
  · cases mean
  next long => exact ⟨by simpa using usable, by simpa using fresh, by omega, (Option.some.inj mean).symm⟩

/-- The core of a view lies in its full window, whose forces are clamped (R87, R89). -/
def BayView.Sound (v : BayView) : Prop :=
  v.core.Sublist v.full ∧ ∀ x ∈ v.full, -1000 ≤ x.value ∧ x.value ≤ 13000

theorem State.bayView_sound (s : State) (b : LoadBay) : (s.bayView b).Sound := by
  unfold State.bayView
  dsimp only
  split
  · next a _ =>
    split
    · exact ⟨List.nil_sublist _, nofun⟩
    · refine ⟨List.Sublist.map _ List.filter_sublist, fun x mem => ?_⟩
      obtain ⟨y, -, rfl⟩ := List.mem_map.1 mem
      exact clamp_bounds _ (by decide)
  · exact ⟨List.nil_sublist _, nofun⟩

theorem bayMeans_bounds {vs : List BayView} {m : Int} (mem : m ∈ bayMeans vs) : 0 ≤ m ∧ m ≤ 13000 := by
  obtain ⟨v, -, mean⟩ := List.mem_filterMap.1 mem
  obtain ⟨-, -, -, rfl⟩ := BayView.mean_good mean
  exact clamp_bounds _ (by decide)

theorem staticLoad_present_iff {unsteady : Bool} {vs : List BayView} {x : Int} {m : Marks} :
    staticLoad unsteady vs = .present x m ↔ bayMeans vs ≠ [] ∧ x = roundDiv (sumInt (bayMeans vs)) (bayMeans vs).length ∧
      m = { unsteady, fewBays := decide ((bayMeans vs).length = 1), drift := vs.any (·.mean.marks.drift) } := by
  rw [staticLoad_eq]
  split
  · next none => simp [none]
  · next some => simp [some, eq_comm]

/-- The forces over which a rail's peak is taken (R93). -/
def peakForces (vs : List BayView) : List Int := (vs.filter (·.isPeakBay)).flatMap fun v => v.full.map (·.value)

theorem peakLoad_present {unsteady : Bool} {vs : List BayView} {x : Int} {m : Marks}
    (present : peakLoad unsteady vs = .present x m) : x ∈ peakForces vs ∧ ∀ y ∈ peakForces vs, y ≤ x := by
  unfold peakLoad at present
  dsimp only at present
  split at present
  · next greatest found =>
    obtain ⟨rfl, -⟩ := Quantity.present.inj present
    exact (maxInt_eq_some_iff _ _).1 found
  · cases present

/-- A static load above 0 is at most the peak: some core holds a force that large, and its bay is a peak bay. -/
theorem staticLoad_le_peakLoad {unsteady : Bool} {vs : List BayView} (sound : ∀ v ∈ vs, v.Sound) {st pk : Int}
    {ms mp : Marks} (static : staticLoad unsteady vs = .present st ms) (peak : peakLoad unsteady vs = .present pk mp) :
    st ≤ max 0 pk := by
  obtain ⟨some, rfl, -⟩ := staticLoad_present_iff.1 static
  refine roundDiv_mean_le some fun m mem => ?_
  obtain ⟨v, inside, mean⟩ := List.mem_filterMap.1 mem
  obtain ⟨usable, fresh, long, rfl⟩ := BayView.mean_good mean
  have bay : v.isPeakBay = true := by
    have wide := (sound v inside).1.length_le
    simp only [BayView.isPeakBay, usable, fresh, Bool.not_false, Bool.and_self, Bool.true_and, decide_eq_true_eq]
    omega
  have below : roundDiv (sumInt (v.core.map (·.value))) (v.core.map (·.value)).length ≤ pk := by
    refine roundDiv_mean_le (List.ne_nil_of_length_pos (by rw [List.length_map]; omega)) fun x mem => ?_
    obtain ⟨y, core, rfl⟩ := List.mem_map.1 mem
    exact (peakLoad_present peak).2 _ (List.mem_flatMap.2
      ⟨v, List.mem_filter.2 ⟨inside, bay⟩, List.mem_map_of_mem ((sound v inside).1.subset core)⟩)
  rw [List.length_map] at below
  unfold clamp
  split <;> omega

theorem impactIncrement_present {static peak : Quantity} {x : Int} {m : Marks}
    (present : impactIncrement static peak = .present x m) :
    ∃ st pk ms mp, static = .present st ms ∧ peak = .present pk mp ∧ x = max 0 (pk - st) := by
  unfold impactIncrement at present
  split at present
  · next st ms pk mp => exact ⟨st, pk, ms, mp, rfl, rfl, (Quantity.present.inj present).1.symm⟩
  · cases present
  · cases present

theorem impactRatio_present {static peak : Quantity} {x : Int} {m : Marks}
    (present : impactRatio static peak = .present x m) :
    ∃ st pk ms mp, static = .present st ms ∧ peak = .present pk mp ∧ 50 ≤ st ∧ x = pk * 100 / st := by
  unfold impactRatio at present
  split at present
  · next st ms pk mp =>
    split at present
    · cases present
    · next heavy => exact ⟨st, pk, ms, mp, rfl, rfl, by omega, (Quantity.present.inj present).1.symm⟩
  · cases present
  · cases present

/-- The ranges of the quantities of a rail (R92 to R94). -/
theorem railLoad_ranges {unsteady : Bool} {vs : List BayView} (sound : ∀ v ∈ vs, v.Sound) {l : LoadResult}
    (formed : railLoad unsteady vs = l) :
    (∀ v m, l.static = .present v m → 0 ≤ v ∧ v ≤ 13000 ∧ 1 ≤ l.bayCount ∧ (m.fewBays = true ↔ l.bayCount = 1)) ∧
    (∀ v m, l.peak = .present v m → -1000 ≤ v ∧ v ≤ 13000) ∧
    (∀ v m, l.increment = .present v m → 0 ≤ v ∧ v ≤ 13000 ∧
      ∃ st pk ms mp, l.static = .present st ms ∧ l.peak = .present pk mp ∧ v = max 0 (pk - st)) ∧
    (∀ v m, l.ratio = .present v m → 100 ≤ v ∧ v ≤ 26000 ∧
      ∃ st pk ms mp, l.static = .present st ms ∧ l.peak = .present pk mp ∧ 50 ≤ st ∧ v = pk * 100 / st) := by
  subst formed
  have static {v : Int} {m : Marks} (present : staticLoad unsteady vs = .present v m) :
      0 ≤ v ∧ v ≤ 13000 ∧ 1 ≤ (bayMeans vs).length ∧ (m.fewBays = true ↔ (bayMeans vs).length = 1) := by
    obtain ⟨some, rfl, rfl⟩ := staticLoad_present_iff.1 present
    exact ⟨le_roundDiv_mean some fun m mem => (bayMeans_bounds mem).1,
      roundDiv_mean_le some fun m mem => (bayMeans_bounds mem).2, List.length_pos_iff.2 some, decide_eq_true_iff⟩
  have peak {v : Int} {m : Marks} (present : peakLoad unsteady vs = .present v m) : -1000 ≤ v ∧ v ≤ 13000 := by
    obtain ⟨w, bay, mem⟩ := List.mem_flatMap.1 (peakLoad_present present).1
    obtain ⟨x, full, rfl⟩ := List.mem_map.1 mem
    exact (sound w (List.mem_of_mem_filter bay)).2 x full
  refine ⟨fun v m => static, fun v m => peak, fun v m present => ?_, fun v m present => ?_⟩
  · obtain ⟨st, pk, ms, mp, isStatic, isPeak, rfl⟩ := impactIncrement_present present
    have low := static isStatic
    have high := peak isPeak
    exact ⟨by omega, by omega, st, pk, ms, mp, isStatic, isPeak, rfl⟩
  · obtain ⟨st, pk, ms, mp, isStatic, isPeak, heavy, rfl⟩ := impactRatio_present present
    have below := staticLoad_le_peakLoad sound isStatic isPeak
    have high := peak isPeak
    refine ⟨(Int.le_ediv_iff_mul_le (by omega)).2 (by omega), ?_, st, pk, ms, mp, isStatic, isPeak, heavy, rfl⟩
    exact Int.lt_add_one_iff.1 ((Int.ediv_lt_iff_lt_mul (by omega)).2 (by omega))

/-! ## When the quantities of a rail are present (R85, R90, R92 to R94) -/

theorem impactIncrement_of_absent (r : Absence) (peak : Quantity) : impactIncrement (.absent r) peak = .absent r := rfl

theorem impactRatio_of_absent (r : Absence) (peak : Quantity) : impactRatio (.absent r) peak = .absent r := rfl

theorem staticLoad_of_no_mean {vs : List BayView} (empty : bayMeans vs = []) (unsteady : Bool) :
    staticLoad unsteady vs = .absent (staticReason vs) := by
  rw [staticLoad_eq, if_pos empty]

theorem peakLoad_of_no_force {vs : List BayView} (empty : peakForces vs = []) (unsteady : Bool) :
    peakLoad unsteady vs =
      .absent ((vs.find? (·.usable)).elim .noChannel fun v => if v.stale then .stale else .short) := by
  have greatest := (maxInt_eq_none_iff _).2 empty
  unfold peakForces at greatest
  unfold peakLoad
  dsimp only
  rw [greatest]
  cases vs.find? (·.usable) <;> rfl

theorem peakLoad_of_force {vs : List BayView} (some : peakForces vs ≠ []) (unsteady : Bool) :
    ∃ v m, peakLoad unsteady vs = .present v m := by
  unfold peakLoad
  dsimp only
  split
  · exact ⟨_, _, rfl⟩
  · next greatest => exact absurd ((maxInt_eq_none_iff _).1 greatest) some

/-- The force of a sample of a bay (R87). -/
def State.bayForce (s : State) (b : LoadBay) (x : Sample) : Int := forceOf (s.offsetOf b.index) (s.gainOf b.index) x.raw

theorem State.bayView_of_unread {s : State} {b : LoadBay} (unread : b.read = none) :
    s.bayView b = { usable := false, drift := false, stale := false, core := [], full := [] } := by
  simp only [State.bayView, unread]

theorem State.bayView_of_stale {s : State} {b : LoadBay} {u : Option Unusable} {drift : Bool}
    (read : b.read = some ⟨u, drift, .stale⟩) :
    s.bayView b = { usable := u.isNone, drift, stale := true, core := [], full := [] } := by
  simp only [State.bayView, read]

theorem State.bayView_of_samples {s : State} {b : LoadBay} {u : Option Unusable} {drift : Bool} {w : List Sample}
    {newest : Option Time} (read : b.read = some ⟨u, drift, .samples w newest⟩) :
    s.bayView b = {
      usable := u.isNone, drift, stale := false,
      core := (w.filter fun x => inWindow b.coreStart b.coreStop x.time).map
        (fun x => ⟨s.bayForce b x, clippedRaw x.raw⟩),
      full := w.map fun x => ⟨s.bayForce b x, clippedRaw x.raw⟩ } := by
  simp only [State.bayView, read]
  rfl

theorem State.bayView_usable (s : State) (b : LoadBay) :
    (s.bayView b).usable = b.read.any fun a => decide (a.unusable = none) := by
  cases read : b.read with
  | none => rw [State.bayView_of_unread read]; rfl
  | some a =>
    obtain ⟨u, drift, window⟩ := a
    cases window with
    | stale => rw [State.bayView_of_stale read]; cases u <;> rfl
    | samples w n => rw [State.bayView_of_samples read]; cases u <;> rfl

theorem BayView.mean_of_unusable {v : BayView} (unusable : v.usable = false) : v.mean = .absent .noChannel := by
  simp [BayView.mean, unusable]

/-- The mean of a usable bay whose window was read whole (R90, R91). -/
theorem State.bayView_mean {s : State} {b : LoadBay} {drift : Bool} {w core : List Sample} {newest : Option Time}
    (read : b.read = some ⟨none, drift, .samples w newest⟩)
    (within : core = w.filter fun x => inWindow b.coreStart b.coreStop x.time) :
    (s.bayView b).mean = if core.any fun x => clippedRaw x.raw then .absent .clipped
      else if core.length < 8 then .absent .short
      else .present (clamp 0 13000 (roundDiv (core.map (s.bayForce b)).sum core.length)) { drift } := by
  rw [State.bayView_of_samples read, ← within]
  simp only [BayView.mean, Option.isNone_none, Bool.not_true, Bool.false_eq_true, if_false, List.any_map,
    List.length_map, List.map_map, sumInt_eq_sum]
  rfl

theorem peakForces_map (f : LoadBay → BayView) (bays : List LoadBay) : peakForces (bays.map f) =
    bays.flatMap fun b => if (f b).isPeakBay then (f b).full.map (·.value) else [] := by
  induction bays with
  | nil => rfl
  | cons b bays ih =>
    rw [List.flatMap_cons, ← ih]
    cases peak : (f b).isPeakBay <;> simp [peakForces, peak]

/-! ## The bearing results of a rail (R106, R112, R113) -/

theorem State.bearingResults_of_whole {s : State} {p : BearingPart} {r : Absence} (whole : p.whole = some r) (rail : Rail) :
    (s.bearingResults p).get rail = absentBearing r := by
  simp only [State.bearingResults, whole]
  cases rail <;> rfl

theorem State.bearingResults_of_read {s : State} {p : BearingPart} (whole : p.whole = none) (rail : Rail) :
    ((s.bearingResults p).get rail).peak =
        s.bearingPeak p.axle.unsteady (p.scanners.find? fun c => decide (c.rail = rail)) ∧
      ((s.bearingResults p).get rail).rise = riseOf ((s.bearingResults p).get rail).peak s.thermal.ambient.value := by
  simp only [State.bearingResults, whole]
  cases rail <;> exact ⟨rfl, rfl⟩

theorem State.bearingPeak_of_unread (s : State) (unsteady : Bool) : s.bearingPeak unsteady none = .absent .noChannel := rfl

theorem State.bearingPeak_range {s : State} {unsteady : Bool} {c : Option Scanner} {x : Int} {m : Marks}
    (present : s.bearingPeak unsteady c = .present x m) : -600 ≤ x ∧ x ≤ 3000 := by
  unfold State.bearingPeak at present
  split at present
  · cases present
  split at present
  · cases present
  split at present
  · cases present
  split at present
  · cases present
  dsimp only at present
  split at present
  · next greatest found =>
    obtain ⟨rfl, -⟩ := Quantity.present.inj present
    obtain ⟨y, -, value⟩ := List.mem_map.1 ((maxInt_eq_some_iff _ _).1 found).1
    split at value
    · exact value ▸ clamp_bounds _ (by decide)
    · omega
  · cases present

/-- The peak of a usable scanner whose window holds 3 samples (R112). -/
theorem State.bearingPeak_of_samples {s : State} {c : Scanner} {e : Channel} {drift : Bool} {w : List Sample}
    {newest : Option Time} (read : c.read = some ⟨none, drift, .samples w newest⟩) (valid : s.channel? c.index = some e)
    (long : 3 ≤ w.length) (unsteady : Bool) :
    ∃ v m, s.bearingPeak unsteady (some c) = .present v m ∧ v ∈ w.map (fun x => tempOf e.offset e.gain x.raw) ∧
      ∀ x ∈ w.map (fun x => tempOf e.offset e.gain x.raw), x ≤ v := by
  obtain ⟨v, greatest⟩ : ∃ v, maxInt (w.map fun x => tempOf e.offset e.gain x.raw) = some v := by
    cases found : maxInt (w.map fun x => tempOf e.offset e.gain x.raw) with
    | some v => exact ⟨v, rfl⟩
    | none =>
      have empty := List.map_eq_nil_iff.1 ((maxInt_eq_none_iff _).1 found)
      simp [empty] at long
  have many : ¬ w.length < 3 := by omega
  simp only [State.bearingPeak, Option.bind_some, read, Option.map_some, Option.isSome_none, Bool.false_eq_true, if_false,
    many, valid, greatest]
  exact ⟨v, _, rfl, (maxInt_eq_some_iff _ _).1 greatest⟩

theorem riseOf_present {peak : Quantity} {ambient : Option Int} {x : Int} {m : Marks}
    (present : riseOf peak ambient = .present x m) :
    ∃ pk a, peak = .present pk m ∧ ambient = some a ∧ x = clamp 0 3000 (pk - a) := by
  unfold riseOf at present
  split at present
  · next pk m' a =>
    obtain ⟨rfl, rfl⟩ := Quantity.present.inj present
    exact ⟨pk, a, rfl, rfl, rfl⟩
  · cases present
  · cases present

/-- Settles O43: the quantities of a rail from its bays' views, and those of its scanner. -/
theorem presentResultsAreSound : Obligations.PresentResultsAreSound := by
  refine ⟨?_, ?_, ?_, ?_, ?_, ?_, ?_⟩
  · intro s p rail l
    cases whole : p.whole with
    | some r =>
      have absent : l = absentLoad r := State.loadResults_of_whole whole rail
      simp [absent, absentLoad]
    | none =>
      refine railLoad_ranges ?_ (State.loadResults_of_read whole rail).symm
      intro v mem
      obtain ⟨b, -, rfl⟩ := List.mem_map.1 mem
      exact s.bayView_sound b
  · intro x y v mx my m present
    exact (Quantity.present.inj present).1.symm
  · intro s p rail b
    cases whole : p.whole with
    | some r =>
      have absent : b = absentBearing r := State.bearingResults_of_whole whole rail
      simp [absent, absentBearing]
    | none =>
      obtain ⟨peak, rise⟩ := State.bearingResults_of_read (s := s) whole rail
      refine ⟨fun v m present => ?_, fun v m present => ?_, fun v m present missing => ?_⟩
      · exact State.bearingPeak_range (peak.symm.trans present)
      · obtain ⟨pk, a, isPeak, ambient, rfl⟩ := riseOf_present (rise.symm.trans present)
        exact ⟨(clamp_bounds _ (by decide)).1, (clamp_bounds _ (by decide)).2, pk, a, isPeak, ambient, rfl⟩
      · rw [rise, show ((s.bearingResults p).get rail).peak = _ from present, missing]
        rfl
  · intro x y v mx my m present
    rw [← (Quantity.present.inj present).1]
    exact Int.natCast_natAbs _
  · intro s p rail l bays clipped force outcome means usable peaks
    have meanOf (b : LoadBay) (a : ReadAnswer) (read : b.read = some a) :
        (∀ r, outcome b a = .error r → (s.bayView b).mean = .absent r) ∧
        ∀ v, outcome b a = .ok v → ∃ m, (s.bayView b).mean = .present v m := by
      obtain ⟨u, drift, window⟩ := a
      cases u with
      | some reason =>
        have unusable : (s.bayView b).usable = false := by rw [State.bayView_usable, read]; rfl
        rw [BayView.mean_of_unusable unusable]
        exact ⟨fun r h => congrArg _ (Except.error.inj h), nofun⟩
      | none =>
        cases window with
        | stale =>
          rw [State.bayView_of_stale read]
          exact ⟨fun r h => congrArg _ (Except.error.inj h), nofun⟩
        | samples w n =>
          obtain ⟨core, within⟩ : ∃ core, core = w.filter fun x => inWindow b.coreStart b.coreStop x.time := ⟨_, rfl⟩
          have result : outcome b ⟨none, drift, .samples w n⟩ =
              if core.any fun x => clippedRaw x.raw then .error .clipped else if core.length < 8 then .error .short
              else .ok (clamp 0 13000 (roundDiv (core.map (s.bayForce b)).sum core.length)) := by
            rw [within]
            rfl
          rw [result, State.bayView_mean read within]
          split_ifs with spoilt few
          · exact ⟨fun r h => congrArg _ (Except.error.inj h), nofun⟩
          · exact ⟨fun r h => congrArg _ (Except.error.inj h), nofun⟩
          · exact ⟨nofun, fun v h => ⟨_, congrArg (Quantity.present · _) (Except.ok.inj h)⟩⟩
    obtain ⟨vs, views⟩ : ∃ vs, vs = bays.map s.bayView := ⟨_, rfl⟩
    have meanList : bayMeans vs = means := by
      rw [views, bayMeans, List.filterMap_map]
      refine List.filterMap_congr fun b _ => ?_
      cases read : b.read with
      | none => simp [State.bayView_of_unread read, BayView.mean, Quantity.value?]
      | some a =>
        obtain ⟨bad, good⟩ := meanOf b a read
        cases result : outcome b a with
        | error r => simp [bad r result, result, Quantity.value?, Except.toOption]
        | ok v =>
          obtain ⟨m, mean⟩ := good v result
          simp [mean, result, Quantity.value?, Except.toOption]
    have forceList : peakForces vs = peaks := by
      rw [views, peakForces_map]
      refine List.flatMap_congr fun b _ => ?_
      cases read : b.read with
      | none => rw [State.bayView_of_unread read]; rfl
      | some a =>
        obtain ⟨u, drift, window⟩ := a
        cases window with
        | stale => rw [State.bayView_of_stale read]; cases u <;> rfl
        | samples w n =>
          rw [State.bayView_of_samples read]
          cases u
          · simp [BayView.isPeakBay]
            rfl
          · rfl
    have found : vs.find? (·.usable) = (bays.find? usable).map s.bayView := by
      rw [views, List.find?_map]
      exact congrArg (Option.map _) (congrArg (List.find? · bays) (funext s.bayView_usable))
    have impact : l.increment = impactIncrement l.static l.peak ∧ l.ratio = impactRatio l.static l.peak := by
      cases whole : p.whole with
      | some r => rw [show l = absentLoad r from State.loadResults_of_whole whole rail]; exact ⟨rfl, rfl⟩
      | none => rw [show l = _ from State.loadResults_of_read whole rail]; exact ⟨rfl, rfl⟩
    obtain ⟨increment, ratio⟩ := impact
    rw [increment, ratio]
    refine ⟨fun r whole => ?_, fun whole reads => ?_, fun r static => ?_, fun v m r static peak => ?_, fun v m x n static peak => ?_⟩
    · rw [show l = absentLoad r from State.loadResults_of_whole whole rail]
      exact ⟨rfl, rfl, rfl, rfl, rfl⟩
    · rw [show l = railLoad p.axle.unsteady vs from (State.loadResults_of_read whole rail).trans (by rw [views])]
      refine ⟨congrArg List.length meanList, fun some => ?_, fun some => ?_, fun unread => ?_, fun b a first read => ?_⟩
      · refine ⟨_, staticLoad_present_iff.2 ⟨meanList ▸ some, ?_, rfl⟩⟩
        rw [meanList, sumInt_eq_sum]
      · obtain ⟨v, m, peak⟩ := peakLoad_of_force (forceList ▸ some) p.axle.unsteady
        exact ⟨v, m, peak, forceList ▸ peakLoad_present peak⟩
      · have unusable (v : BayView) (mem : v ∈ vs) : v.usable = false := by
          have none : vs.find? (·.usable) = none := by rw [found, unread]; rfl
          simpa using List.find?_eq_none.1 none v mem
        have noMean : bayMeans vs = [] := by
          refine List.filterMap_eq_nil_iff.2 fun v mem => ?_
          rw [BayView.mean_of_unusable (unusable v mem)]
          rfl
        have noForce : peakForces vs = [] := by
          refine List.flatMap_eq_nil_iff.2 fun v mem => ?_
          obtain ⟨inside, bay⟩ := List.mem_filter.1 mem
          simp [BayView.isPeakBay, unusable v inside] at bay
        refine ⟨(staticLoad_of_no_mean noMean _).trans ?_, (peakLoad_of_no_force noForce _).trans ?_⟩
        · rw [staticReason, found, unread]
          rfl
        · rw [found, unread]
          rfl
      · refine ⟨fun r noMean result => (staticLoad_of_no_mean (meanList.trans noMean) _).trans ?_, fun noForce =>
          (peakLoad_of_no_force (forceList.trans noForce) _).trans ?_⟩
        · rw [staticReason, found, first]
          exact congrArg (fun q : Quantity => Quantity.absent (q.reasonOr .noChannel)) ((meanOf b a read).1 r result)
        · rw [found, first]
          obtain ⟨u, drift, window⟩ := a
          cases window with
          | stale => rw [Option.map_some, State.bayView_of_stale read]; rfl
          | samples w n => rw [Option.map_some, State.bayView_of_samples read]; rfl
    · rw [static]
      exact ⟨rfl, rfl⟩
    · rw [static, peak]
      exact ⟨rfl, rfl⟩
    · rw [static, peak]
      exact ⟨⟨_, rfl⟩, fun light => if_pos light, fun heavy => ⟨_, if_neg (by omega)⟩⟩
  · intro x m q r
    refine ⟨rfl, rfl, rfl, rfl, fun y n => ⟨⟨_, rfl⟩, ⟨_, congrArg (Quantity.present · _) (Int.natCast_natAbs _)⟩⟩⟩
  · intro s p rail b scanner
    have rise : b.rise = riseOf b.peak s.thermal.ambient.value := by
      cases whole : p.whole with
      | some r => rw [show b = absentBearing r from State.bearingResults_of_whole whole rail]; rfl
      | none => exact (State.bearingResults_of_read whole rail).2
    refine ⟨fun r whole => ?_, fun whole missing => ?_, fun c a whole configured read => ?_, fun r peak => ?_,
      fun v m a peak ambient => ?_⟩
    · rw [show b = absentBearing r from State.bearingResults_of_whole whole rail]
      exact ⟨rfl, rfl⟩
    · rw [show b.peak = _ from (State.bearingResults_of_read (s := s) whole rail).1]
      rw [show p.scanners.find? _ = none from missing]
      rfl
    · rw [show b.peak = _ from (State.bearingResults_of_read (s := s) whole rail).1]
      rw [show p.scanners.find? _ = some c from configured]
      obtain ⟨u, drift, window⟩ := a
      refine ⟨fun unusable => ?_, fun usable stale => ?_, fun w n usable samples => ⟨fun few => ?_, fun e long valid => ?_⟩⟩
      · obtain ⟨reason, rfl⟩ := Option.ne_none_iff_exists'.1 unusable
        simp [State.bearingPeak, read]
      · obtain rfl : u = none := usable
        obtain rfl : window = .stale := stale
        simp [State.bearingPeak, read]
      · obtain rfl : u = none := usable
        obtain rfl : window = .samples w n := samples
        simp [State.bearingPeak, read, few]
      · obtain rfl : u = none := usable
        obtain rfl : window = .samples w n := samples
        exact State.bearingPeak_of_samples read valid long _
    · rw [rise, peak]
      rfl
    · rw [rise, peak, ambient]
      rfl

end Sys2Proof.Machine

/-!
PROOFS. Chapter 7, first part: the pattern test and the decision at the cursor.
-/

namespace Sys2Proof.Machine

/-! ## One spacing against its nominal value (R124) -/

/-- A spacing within the tolerance of its nominal value. -/
def Fits (tolerance nominal : Nat) (x : SpacingView) : Prop := ∃ v, x = .known v ∧ (v - (nominal : Int)).natAbs ≤ tolerance

theorem innerAnswer_eq_none_iff {final : Bool} {tolerance nominal : Nat} {x : SpacingView} :
    innerAnswer final tolerance nominal x = none ↔ Fits tolerance nominal x := by
  cases x <;> simp [innerAnswer, Fits]

theorem innerAnswer_eq_no_iff {tolerance nominal : Nat} {x : SpacingView} :
    innerAnswer false tolerance nominal x = some .no ↔
      x = .absent ∨ ∃ v, x = .known v ∧ tolerance < (v - (nominal : Int)).natAbs := by
  cases x <;> simp [innerAnswer]

theorem innerAnswer_eq_wait_iff {tolerance nominal : Nat} {x : SpacingView} :
    innerAnswer false tolerance nominal x = some .wait ↔ x = .noRecord ∨ x = .unknown := by
  cases x <;> simp [innerAnswer]

theorem innerAnswer_ne_hit (final : Bool) (tolerance nominal : Nat) (x : SpacingView) :
    innerAnswer final tolerance nominal x ≠ some .hit := by
  cases x <;> cases final <;> simp [innerAnswer]

theorem innerAnswer_final_ne_wait (tolerance nominal : Nat) (x : SpacingView) :
    innerAnswer true tolerance nominal x ≠ some .wait := by
  cases x <;> simp [innerAnswer]

theorem couplingAnswer_eq_hit_iff {gap : Nat} {x : SpacingView} :
    couplingAnswer false gap x = .hit ↔ ∃ v, x = .known v ∧ (gap : Int) ≤ v := by
  cases x <;> simp [couplingAnswer]

theorem couplingAnswer_eq_no_iff {gap : Nat} {x : SpacingView} :
    couplingAnswer false gap x = .no ↔ x = .absent ∨ ∃ v, x = .known v ∧ v < (gap : Int) := by
  cases x <;> simp [couplingAnswer]

theorem couplingAnswer_eq_wait_iff {gap : Nat} {x : SpacingView} :
    couplingAnswer false gap x = .wait ↔ x = .noRecord ∨ x = .unknown := by
  cases x with
  | known v => by_cases short : v < gap <;> simp [couplingAnswer, short]
  | _ => simp [couplingAnswer]

theorem couplingAnswer_final_eq_hit_iff {gap : Nat} {x : SpacingView} :
    couplingAnswer true gap x = .hit ↔ x = .noRecord ∨ ∃ v, x = .known v ∧ (gap : Int) ≤ v := by
  cases x <;> simp [couplingAnswer]

theorem couplingAnswer_final_ne_wait (gap : Nat) (x : SpacingView) : couplingAnswer true gap x ≠ .wait := by
  cases x with
  | known v => by_cases short : v < gap <;> simp [couplingAnswer, short]
  | _ => simp [couplingAnswer]

/-! ## A pattern's spacings in order (R124) -/

/-- A test answers what the first spacing that does not fit answers, or its coupling spacing when all fit. -/
theorem State.testFrom_eq_iff (s : State) (final : Bool) (p : Pattern) (a : Answer) (l : List Nat) (k : Nat) :
    s.testFrom final p k l = a ↔
      (∃ i : Fin l.length, (∀ j : Fin l.length, j < i → Fits p.tolerance l[j] (s.spacingView (k + j))) ∧
        innerAnswer final p.tolerance l[i] (s.spacingView (k + i)) = some a) ∨
      ((∀ j : Fin l.length, Fits p.tolerance l[j] (s.spacingView (k + j))) ∧
        couplingAnswer final p.gap (s.spacingView (k + l.length)) = a) := by
  induction l generalizing k with
  | nil => simp [State.testFrom]
  | cons nominal l ih =>
    have shift (i : Nat) : k + 1 + i = k + (i + 1) := by omega
    unfold State.testFrom
    split
    · next b first =>
      have apart : ¬ Fits p.tolerance nominal (s.spacingView k) := fun fits => by
        rw [innerAnswer_eq_none_iff.2 fits] at first
        cases first
      constructor
      · rintro rfl
        exact .inl ⟨0, fun j early => absurd early (Fin.not_lt_zero j), first⟩
      · rintro (⟨i, fits, answer⟩ | ⟨fits, -⟩)
        · cases i using Fin.cases with
          | zero => exact Option.some.inj (first.symm.trans answer)
          | succ i => exact absurd (fits 0 i.succ_pos) apart
        · exact absurd (fits 0) apart
    · next first =>
      have fits0 := innerAnswer_eq_none_iff.1 first
      rw [ih (k + 1)]
      simp only [shift]
      refine or_congr ⟨?_, ?_⟩ (and_congr ⟨fun fits j => ?_, fun fits j => fits j.succ⟩ Iff.rfl)
      · rintro ⟨i, fits, answer⟩
        refine ⟨i.succ, fun j early => ?_, answer⟩
        cases j using Fin.cases with
        | zero => exact fits0
        | succ j => exact fits j (Fin.succ_lt_succ_iff.1 early)
      · rintro ⟨i, fits, answer⟩
        cases i using Fin.cases with
        | zero => cases first.symm.trans answer
        | succ i => exact ⟨i, fun j early => fits j.succ (Fin.succ_lt_succ_iff.2 early), answer⟩
      · cases j using Fin.cases with
        | zero => exact fits0
        | succ j => exact fits j

theorem State.testPattern_final_ne_wait (s : State) (c : Nat) (p : Pattern) : s.testPattern true c p ≠ .wait := by
  intro wait
  rcases (s.testFrom_eq_iff true p .wait p.spacings (c + 1)).1 wait with ⟨i, -, answer⟩ | ⟨-, answer⟩
  · exact innerAnswer_final_ne_wait _ _ _ answer
  · exact couplingAnswer_final_ne_wait _ _ answer

/-- A test is a MATCH when every inner spacing fits and the coupling spacing does. -/
theorem State.testPattern_eq_hit_iff (s : State) (final : Bool) (c : Nat) (p : Pattern) :
    s.testPattern final c p = .hit ↔
      (∀ j : Fin p.spacings.length, Fits p.tolerance p.spacings[j] (s.spacingView (c + 1 + j))) ∧
        couplingAnswer final p.gap (s.spacingView (c + 1 + p.spacings.length)) = .hit := by
  rw [State.testPattern, State.testFrom_eq_iff]
  exact or_iff_right fun ⟨i, _, answer⟩ => innerAnswer_ne_hit _ _ _ _ answer

/-! ## The first entry that does not answer NO (R125) -/

theorem State.tryPatterns_skip {s : State} {final : Bool} {c : Nat} (l m : List (Entry Pattern)) (j : Nat)
    (no : ∀ p, .valid p ∈ l → s.testPattern final c p = .no) :
    s.tryPatterns final c j (l ++ m) = s.tryPatterns final c (j + l.length) m := by
  induction l generalizing j with
  | nil => rfl
  | cons e l ih =>
    have rest := ih (j + 1) fun p mem => no p (List.mem_cons_of_mem _ mem)
    rw [List.length_cons, Nat.add_comm l.length, ← Nat.add_assoc, ← rest]
    cases e with
    | valid p => simp only [List.cons_append, State.tryPatterns, no p List.mem_cons_self]
    | _ => rfl

theorem State.tryPatterns_of_all_no {s : State} {final : Bool} {c : Nat} {l : List (Entry Pattern)} (j : Nat)
    (no : ∀ p, .valid p ∈ l → s.testPattern final c p = .no) : s.tryPatterns final c j l = none := by
  have skipped := State.tryPatterns_skip l [] j no
  rwa [List.append_nil] at skipped

theorem State.tryPatterns_of_hit {s : State} {final : Bool} {c : Nat} {p : Pattern} {l : List (Entry Pattern)} (j : Nat)
    (hit : s.testPattern final c p = .hit) :
    s.tryPatterns final c j (.valid p :: l) = some (.form (some p.cls) (some j) p.n p.set) := by
  simp only [State.tryPatterns, hit]

theorem State.tryPatterns_of_wait {s : State} {final : Bool} {c : Nat} {p : Pattern} {l : List (Entry Pattern)} (j : Nat)
    (wait : s.testPattern final c p = .wait) : s.tryPatterns final c j (.valid p :: l) = some .wait := by
  simp only [State.tryPatterns, wait]

/-- Every entry tested is a pattern of its list, and the answer is that of one of them. -/
theorem State.tryPatterns_some {s : State} {final : Bool} {c j : Nat} {l : List (Entry Pattern)} {d : Decision}
    (decided : s.tryPatterns final c j l = some d) :
    ∃ p i, .valid p ∈ l ∧ ((s.testPattern final c p = .wait ∧ d = .wait) ∨
      (s.testPattern final c p = .hit ∧ d = .form (some p.cls) (some i) p.n p.set)) := by
  induction l generalizing j with
  | nil => cases decided
  | cons e l ih =>
    have later (rest : s.tryPatterns final c (j + 1) l = some d) :
        ∃ p i, .valid p ∈ e :: l ∧ ((s.testPattern final c p = .wait ∧ d = .wait) ∨
          (s.testPattern final c p = .hit ∧ d = .form (some p.cls) (some i) p.n p.set)) := by
      obtain ⟨p, i, mem, answer⟩ := ih rest
      exact ⟨p, i, List.mem_cons_of_mem _ mem, answer⟩
    cases e with
    | valid p =>
      cases answer : s.testPattern final c p with
      | no =>
        simp only [State.tryPatterns, answer] at decided
        exact later decided
      | wait =>
        rw [State.tryPatterns_of_wait j answer] at decided
        exact ⟨p, j, List.mem_cons_self, .inl ⟨answer, (Option.some.inj decided).symm⟩⟩
      | hit =>
        rw [State.tryPatterns_of_hit j answer] at decided
        exact ⟨p, j, List.mem_cons_self, .inr ⟨answer, (Option.some.inj decided).symm⟩⟩
    | _ => exact later decided

theorem mem_patterns_iff {s : State} {e : Entry Pattern} :
    e ∈ s.tables.active.patterns.toList ↔ ∃ j : Fin 64, s.tables.active.patterns[j] = e := by
  rw [Vector.mem_toList_iff, Vector.mem_iff_getElem]
  exact ⟨fun ⟨i, inside, same⟩ => ⟨⟨i, inside⟩, same⟩, fun ⟨j, same⟩ => ⟨j, j.isLt, same⟩⟩

/-- The entries of the table about one of them. -/
theorem patterns_split (s : State) (j : Fin 64) :
    s.tables.active.patterns.toList = s.tables.active.patterns.toList.take j ++
      s.tables.active.patterns[j] :: s.tables.active.patterns.toList.drop (j + 1) := by
  have inside : j.val < s.tables.active.patterns.toList.length := by simp
  have entry : s.tables.active.patterns[j] = s.tables.active.patterns.toList[j.val] := by simp
  rw [entry, ← List.drop_eq_getElem_cons inside, List.take_append_drop]

/-- The decision of the first entry that does not answer NO (R125). -/
theorem State.decideVehicle_of_first {s : State} {final : Bool} {j : Fin 64} {p : Pattern} {d : Decision}
    (entry : s.tables.active.patterns[j] = .valid p)
    (before : ∀ (i : Fin 64) (q : Pattern), i < j → s.tables.active.patterns[i] = .valid q →
      s.testPattern final s.group.cursor q = .no)
    (decides : ∀ l, s.tryPatterns final s.group.cursor j (.valid p :: l) = some d) : s.decideVehicle final = d := by
  have no (q : Pattern) (mem : .valid q ∈ s.tables.active.patterns.toList.take j) :
      s.testPattern final s.group.cursor q = .no := by
    obtain ⟨i, inside, at_⟩ := List.mem_take_iff_getElem.1 mem
    rw [Vector.length_toList] at inside
    have early : i < j.val := by omega
    exact before ⟨i, by omega⟩ q (Fin.lt_def.2 early) (by simpa using at_)
  have length : (s.tables.active.patterns.toList.take j).length = j.val := by simp
  unfold State.decideVehicle
  rw [patterns_split s j, State.tryPatterns_skip _ _ _ no, length, Nat.zero_add, entry, decides]

/-! ## The unclassified vehicle (R126, R128) -/

/-- The first axle whose spacing ends the search, or the eighth. -/
theorem State.unclassifiedLast_skip {s : State} {final : Bool} {gap : Nat} (n m j : Nat)
    (joined : ∀ i, i < n → s.spacingView (j + i + 1) = .absent ∨ (final = true ∧ s.spacingView (j + i + 1) = .unknown) ∨
      ∃ v, s.spacingView (j + i + 1) = .known v ∧ v < (gap : Int)) :
    s.unclassifiedLast final gap (n + m) j = s.unclassifiedLast final gap m (j + n) := by
  induction n generalizing j with
  | zero => simp
  | succ n ih =>
    have rest := ih (j + 1) fun i early => by
      have next := joined (i + 1) (by omega)
      rwa [show j + (i + 1) + 1 = j + 1 + i + 1 by omega] at next
    rw [show n + 1 + m = n + m + 1 by omega, show j + (n + 1) = j + 1 + n by omega, ← rest]
    rcases joined 0 (by omega) with view | ⟨rfl, view⟩ | ⟨v, view, short⟩ <;>
      simp only [Nat.add_zero] at view <;> simp [State.unclassifiedLast, view]
    omega

theorem State.unclassifiedLast_of_last {s : State} {final : Bool} {gap : Nat} (n : Nat) {j : Nat}
    (last : (final = true ∧ s.spacingView (j + 1) = .noRecord) ∨ ∃ v, s.spacingView (j + 1) = .known v ∧ (gap : Int) ≤ v) :
    s.unclassifiedLast final gap (n + 1) j = some j := by
  rcases last with ⟨rfl, view⟩ | ⟨v, view, wide⟩
  · simp [State.unclassifiedLast, view]
  · simp [State.unclassifiedLast, view, Int.not_lt.2 wide]

theorem State.unclassifiedLast_of_pending {s : State} {final : Bool} {gap : Nat} (n : Nat) {j : Nat} (open_ : final = false)
    (pending : s.spacingView (j + 1) = .noRecord ∨ s.spacingView (j + 1) = .unknown) :
    s.unclassifiedLast final gap (n + 1) j = none := by
  subst open_
  rcases pending with view | view <;> simp [State.unclassifiedLast, view]

theorem State.unclassifiedLast_range {s : State} {final : Bool} {gap n j k : Nat}
    (last : s.unclassifiedLast final gap n j = some k) : j ≤ k ∧ k ≤ j + n := by
  induction n generalizing j with
  | zero =>
    obtain rfl : j = k := Option.some.inj last
    omega
  | succ n ih =>
    unfold State.unclassifiedLast at last
    repeat' split at last
    all_goals grind

theorem State.unclassifiedLast_final (s : State) (gap n j : Nat) : s.unclassifiedLast true gap n j ≠ none := by
  induction n generalizing j with
  | zero => simp [State.unclassifiedLast]
  | succ n ih =>
    unfold State.unclassifiedLast
    repeat' split
    all_goals grind

theorem State.decideVehicle_unclassified {s : State} {final : Bool} {o : Option Nat}
    (no : ∀ (j : Fin 64) (p : Pattern), s.tables.active.patterns[j] = .valid p →
      s.testPattern final s.group.cursor p = .no)
    (last : s.unclassifiedLast final s.unclassifiedGap 7 s.group.cursor = o) :
    s.decideVehicle final = o.elim .wait fun j => .form none none (j + 1 - s.group.cursor) 0 := by
  unfold State.decideVehicle
  rw [State.tryPatterns_of_all_no, last]
  · cases o <;> rfl
  · intro p mem
    obtain ⟨j, entry⟩ := mem_patterns_iff.1 mem
    exact no j p entry

/-- A vehicle formed has the axle count of a valid pattern, or from 1 to 8 axles (R125, R126). -/
theorem State.decideVehicle_count {s : State} {final : Bool} {cls pattern : Option Nat} {count set : Nat}
    (forms : s.decideVehicle final = .form cls pattern count set) :
    (∃ (j : Fin 64) (p : Pattern), s.tables.active.patterns[j] = .valid p ∧ count = p.n) ∨ (1 ≤ count ∧ count ≤ 8) := by
  unfold State.decideVehicle at forms
  split at forms
  · next d decided =>
    obtain ⟨p, i, mem, ⟨-, rfl⟩ | ⟨-, rfl⟩⟩ := State.tryPatterns_some decided
    · cases forms
    · obtain ⟨j, entry⟩ := mem_patterns_iff.1 mem
      obtain ⟨-, -, rfl, -⟩ := Decision.form.inj forms
      exact .inl ⟨j, p, entry, rfl⟩
  · split at forms
    · cases forms
    · next last =>
      have range := State.unclassifiedLast_range last
      obtain ⟨-, -, rfl, -⟩ := Decision.form.inj forms
      omega

theorem State.decideVehicle_final_ne_wait (s : State) : s.decideVehicle true ≠ .wait := by
  intro wait
  unfold State.decideVehicle at wait
  split at wait
  · next d decided =>
    obtain ⟨p, i, -, ⟨answer, -⟩ | ⟨-, rfl⟩⟩ := State.tryPatterns_some decided
    · exact s.testPattern_final_ne_wait _ p answer
    · cases wait
  · split at wait
    · next none => exact s.unclassifiedLast_final _ _ _ none
    · cases wait

/-! ## Formations (R127) -/

theorem State.judge_group (s : State) (v : Vehicle) : (s.judge v).group = { s.group with
    vehicles := s.group.vehicles.map fun x => if x.index = v.index then
      v.judge (s.vehicleRecords v) (s.threshold? v.set) s.tables.active.bands else x } := by
  unfold State.judge
  dsimp only
  cases s.threshold? v.set <;> simp

/-- What a judgement leaves of the grouping unit: it writes vehicle records in place. -/
theorem State.judgeIfReady_group (s : State) (i : Nat) :
    (s.judgeIfReady i).group.cursor = s.group.cursor ∧ (s.judgeIfReady i).group.notices = s.group.notices ∧
      (s.judgeIfReady i).group.vehicles.length = s.group.vehicles.length := by
  unfold State.judgeIfReady
  split
  · split
    · simp [State.judge_group]
    · exact ⟨rfl, rfl, rfl⟩
  · exact ⟨rfl, rfl, rfl⟩

theorem State.formVehicle_cursor (s : State) (final : Bool) (cls pattern : Option Nat) (count set : Nat) :
    (s.formVehicle final cls pattern count set).group.cursor = s.group.cursor + count ∧
      (s.formVehicle final cls pattern count set).group.notices = s.group.notices := by
  unfold State.formVehicle
  cases cls <;> simp [State.judgeIfReady_group]

theorem State.formVehicle_records_length (s : State) (final : Bool) (cls pattern : Option Nat) (count set : Nat) :
    (s.formVehicle final cls pattern count set).axles.records.length = s.axles.records.length := by
  simpa using congrArg List.length (s.formVehicle_calm final cls pattern count set).ordinals

/-- A run with fuel for the records above its cursor does not end for want of fuel. -/
theorem State.segment_end {final : Bool} (n : Nat) {s : State}
    (some : ∀ (j : Fin 64) (p : Pattern), s.tables.active.patterns[j] = .valid p → 1 ≤ p.n)
    (fuel : s.axles.records.length < s.group.cursor + n) :
    (State.segment final n s).axles.records.length < (State.segment final n s).group.cursor ∨
      (State.segment final n s).decideVehicle final = .wait := by
  induction n generalizing s with
  | zero => exact .inl fuel
  | succ n ih =>
    unfold State.segment
    split
    · next above => exact .inl above
    · split
      · next wait => exact .inr wait
      · next cls pattern count set forms =>
        have positive : 1 ≤ count := by
          rcases State.decideVehicle_count forms with ⟨j, p, entry, rfl⟩ | range
          · exact some j p entry
          · exact range.1
        refine ih (by simpa using some) ?_
        rw [State.formVehicle_records_length, (s.formVehicle_cursor ..).1]
        omega

/-- Settles O45: the pattern test by the first spacing that does not fit, the decision by the first entry that does not
answer NO, and the end of a run under the end-of-train rule by its fuel. -/
theorem patternTestMatches : Obligations.PatternTestMatches := by
  refine ⟨fun s c p => ?_, State.testPattern_final_ne_wait, State.decideVehicle_final_ne_wait, fun s some => ?_,
    ?_, fun s final j p entry before => ⟨fun hit => ?_, fun wait => ?_⟩, ?_⟩
  · rw [State.testPattern_eq_hit_iff, couplingAnswer_eq_hit_iff]
    exact Iff.rfl
  · exact (State.segment_end (final := true) _ some (by omega)).resolve_right (State.decideVehicle_final_ne_wait _)
  · intro s c p view n fits wide pending
    refine ⟨?_, ?_, ?_⟩
    · rw [State.testPattern, State.testFrom_eq_iff]
      simp only [innerAnswer_eq_no_iff, couplingAnswer_eq_no_iff]
      exact Iff.rfl
    · rw [State.testPattern, State.testFrom_eq_iff]
      simp only [innerAnswer_eq_wait_iff, couplingAnswer_eq_wait_iff]
      exact Iff.rfl
    · rw [State.testPattern_eq_hit_iff, couplingAnswer_final_eq_hit_iff]
      exact Iff.rfl
  · exact State.decideVehicle_of_first entry before fun l => State.tryPatterns_of_hit _ hit
  · exact State.decideVehicle_of_first entry before fun l => State.tryPatterns_of_wait _ wait
  · intro s final sc n site no view joined last few goOn
    have gap : s.unclassifiedGap = sc.unclassifiedGap := by simp [State.unclassifiedGap, site]
    have skip (m : Nat) := State.unclassifiedLast_skip (final := final) n m s.group.cursor goOn
    refine ⟨fun full => ?_, fun less ends => ?_, fun less more nor => ?_⟩
    · subst full
      rw [State.decideVehicle_unclassified no rfl, gap, show 7 = 7 + 0 from rfl, skip 0]
      simp [State.unclassifiedLast]
      omega
    · have found : s.unclassifiedLast final sc.unclassifiedGap 7 s.group.cursor = some (s.group.cursor + n) := by
        rw [show 7 = n + (6 - n + 1) by omega, skip]
        exact State.unclassifiedLast_of_last _ ends
      rw [State.decideVehicle_unclassified no rfl, gap, found]
      simp
      omega
    · have pends : final = false ∧ (view n = .noRecord ∨ view n = .unknown) := by
        cases here : view n with
        | known v =>
          rcases Int.lt_or_le v sc.unclassifiedGap with short | wide
          · exact absurd (.inr (.inr ⟨v, here, short⟩)) more
          · exact absurd (.inr ⟨v, here, wide⟩) nor
        | absent => exact absurd (.inl here) more
        | unknown => exact ⟨by_contra fun on => more (.inr (.inl ⟨by simpa using on, here⟩)), .inr rfl⟩
        | noRecord => exact ⟨by_contra fun on => nor (.inl ⟨by simpa using on, here⟩), .inl rfl⟩
      have found : s.unclassifiedLast final sc.unclassifiedGap 7 s.group.cursor = none := by
        rw [show 7 = n + (6 - n + 1) by omega, skip]
        exact State.unclassifiedLast_of_pending _ pends.1 pends.2
      rw [State.decideVehicle_unclassified no rfl, gap, found]
      rfl

end Sys2Proof.Machine

/-!
PROOFS. Chapter 7, second part: the segmentation runs.
-/

namespace Sys2Proof.Machine

/-! ## The vehicle list (R127) -/

/-- The vehicles carry the indices 1 upward in order. -/
def State.Numbered (s : State) : Prop := s.group.vehicles.map (·.index) = List.range' 1 s.group.vehicles.length

theorem State.Numbered.index_le {s : State} (numbered : s.Numbered) {v : Vehicle} (mem : v ∈ s.group.vehicles) :
    v.index ≤ s.group.vehicles.length := by
  have listed := List.mem_map_of_mem (f := (·.index)) mem
  rw [numbered, List.mem_range'_1] at listed
  omega

theorem State.Numbered.nodup {s : State} (numbered : s.Numbered) : (s.group.vehicles.map (·.index)).Nodup := by
  rw [numbered]
  exact List.nodup_range'

theorem State.vehicle?_index {s : State} {i : Nat} {v : Vehicle} (found : s.vehicle? i = some v) : v.index = i := by
  simpa using List.find?_some found

theorem State.vehicle?_mem {s : State} {i : Nat} {v : Vehicle} (found : s.vehicle? i = some v) : v ∈ s.group.vehicles :=
  List.mem_of_find?_eq_some found

/-- A judgement keeps what it does not write: index and count of every vehicle (R130, R134). -/
theorem State.judgeIfReady_vehicles {s : State} (nodup : (s.group.vehicles.map (·.index)).Nodup) (i : Nat) :
    (s.judgeIfReady i).group.vehicles.map (fun v => (v.index, v.count)) =
      s.group.vehicles.map fun v => (v.index, v.count) := by
  unfold State.judgeIfReady
  split
  · next v found =>
    split
    · rw [State.judge_group]
      simp only [List.map_map]
      refine List.map_congr_left fun x mem => ?_
      by_cases same : x.index = v.index
      · obtain rfl : x = v := List.inj_on_of_nodup_map nodup mem (State.vehicle?_mem found) same
        simp [Vehicle.judge]
      · simp [same]
    · rfl
  · rfl

/-! ## Raises beside the vehicle list -/

theorem State.offerAlertIf_group (s : State) (g : Grouping) (k : AlertKind) (before : AlertEntry) (src : Source) :
    ({ s with group := g } : State).offerAlertIf k before src = { s.offerAlertIf k before src with group := g } := by
  unfold State.offerAlertIf State.offerAlert
  dsimp only
  split
  · split <;> rfl
  · rfl

/-- The Vehicle List plays no part in a raise. -/
theorem State.raise_group (s : State) (g : Grouping) (k : AlertKind) (q : Half) (i : Nat) :
    ({ s with group := g } : State).raise k (.vehicle q i) = { s.raise k (.vehicle q i) with group := g } := by
  have written : ({ s with group := g } : State).writeRaised k (.vehicle q i) =
      { s.writeRaised k (.vehicle q i) with group := g } := rfl
  rw [State.raise_eq_steps, written, State.offerAlertIf_group, State.countTrainRaise_eq, State.raise_eq_steps,
    State.countTrainRaise_eq]
  rfl

/-! ## One formation (R125 to R129) -/

/-- The vehicle record a formation appends. -/
def State.newVehicle (s : State) (final : Bool) (cls pattern : Option Nat) (count set : Nat) : Vehicle :=
  { index := s.group.vehicles.length + 1, cls, pattern, first := s.group.cursor, count, set
    atClose := final, verdicts := if cls = none then [.t6] else [] }

/-- The state with the vehicle appended, its axles told and the cursor moved. -/
def State.joinVehicle (s : State) (v : Vehicle) : State :=
  { s with
    group.vehicles := s.group.vehicles ++ [v]
    group.cursor := s.group.cursor + v.count
    axles.records := s.axles.records.map fun r =>
      if v.first ≤ r.ordinal ∧ r.ordinal < v.first + v.count then { r with vehicle := some v.index } else r }

/-- The state after the raise of an unclassified vehicle, before any judgement. -/
def State.raiseUnclassified (s : State) (v : Vehicle) : State :=
  if v.cls = none then s.raise .t6 (.vehicle s.session.seq v.index) else s

theorem State.raiseUnclassified_frame (s : State) (v : Vehicle) :
    (s.raiseUnclassified v).group = s.group ∧ (s.raiseUnclassified v).axles.records = s.axles.records := by
  unfold State.raiseUnclassified
  split
  · exact ⟨by simp, State.raise_records_of_unnamed _ nofun⟩
  · exact ⟨rfl, rfl⟩

/-- Writing the record of the vehicle last appended. -/
theorem map_appended {s : State} (numbered : s.Numbered) {v : Vehicle} (new : v.index = s.group.vehicles.length + 1)
    (f : Vehicle → Vehicle) : (s.group.vehicles ++ [v]).map (fun x => if x.index = s.group.vehicles.length + 1 then f x else x) =
      s.group.vehicles ++ [f v] := by
  have old : s.group.vehicles.map (fun x => if x.index = s.group.vehicles.length + 1 then f x else x) = s.group.vehicles := by
    refine (List.map_congr_left fun x mem => if_neg ?_).trans (List.map_id _)
    have below := numbered.index_le mem
    omega
  rw [List.map_append, old, List.map_singleton, if_pos new]

/-- A formation appends the new vehicle, raises T6 for an unclassified one, and judges it if it can. -/
theorem State.formVehicle_eq {s : State} (numbered : s.Numbered) (final : Bool) (cls pattern : Option Nat) (count set : Nat) :
    s.formVehicle final cls pattern count set =
      (((s.joinVehicle (s.newVehicle final cls pattern count set)).raiseUnclassified
        (s.newVehicle final cls pattern count set)).judgeIfReady (s.group.vehicles.length + 1)) := by
  cases cls with
  | some c => rfl
  | none =>
    obtain ⟨u, joined⟩ : ∃ u, u = s.joinVehicle (s.newVehicle final none pattern count set) := ⟨_, rfl⟩
    have raised : u.raiseUnclassified (s.newVehicle final none pattern count set) =
        u.raise .t6 (.vehicle s.session.seq (s.group.vehicles.length + 1)) := by
      rw [joined]
      rfl
    have bare : s.formVehicle final none pattern count set =
        ((({ u with group.vehicles := s.group.vehicles ++
            [{ s.newVehicle final none pattern count set with verdicts := [] }] } : State).raise .t6
          (.vehicle s.session.seq (s.group.vehicles.length + 1))).updVehicle (s.group.vehicles.length + 1)
          fun v => { v with verdicts := [.t6] }).judgeIfReady (s.group.vehicles.length + 1) := by
      rw [joined]
      rfl
    rw [bare, ← joined, raised, State.raise_group]
    refine congrArg (State.judgeIfReady · _) ?_
    have written : ({ u.group with
        vehicles := (s.group.vehicles ++ [{ s.newVehicle final none pattern count set with verdicts := [] }]).map
          fun x : Vehicle => if x.index = s.group.vehicles.length + 1 then { x with verdicts := [.t6] } else x } : Grouping) =
        (u.raise .t6 (.vehicle s.session.seq (s.group.vehicles.length + 1))).group := by
      rw [map_appended numbered rfl]
      simp only [State.raise_frame]
      rw [joined]
      rfl
    exact congrArg (fun g => { u.raise .t6 (.vehicle s.session.seq (s.group.vehicles.length + 1)) with group := g }) written

theorem State.joinVehicle_vehicle {s : State} (numbered : s.Numbered) {v : Vehicle}
    (new : v.index = s.group.vehicles.length + 1) : (s.joinVehicle v).vehicle? (s.group.vehicles.length + 1) = some v := by
  have old : s.group.vehicles.find? (fun x => x.index == s.group.vehicles.length + 1) = none := by
    refine List.find?_eq_none.2 fun x mem => ?_
    have below := numbered.index_le mem
    simp
    omega
  simp only [State.vehicle?, State.joinVehicle]
  rw [List.find?_append, old]
  simp [new]

/-- The axles a vehicle takes are DONE after the formation where they were before. -/
theorem State.joinVehicle_ready (s : State) (v : Vehicle) :
    (((s.joinVehicle v).vehicleRecords v).all fun r => decide (r.status = .done)) = true ↔
      ∀ r ∈ s.axles.records, v.first ≤ r.ordinal → r.ordinal < v.first + v.count → r.status = .done := by
  have kept (r : AxleRecord) (c : Prop) [Decidable c] (x : Option Nat) :
      (if c then { r with vehicle := x } else r).ordinal = r.ordinal ∧
        (if c then { r with vehicle := x } else r).status = r.status := by
    split <;> exact ⟨rfl, rfl⟩
  simp only [State.vehicleRecords, State.joinVehicle, List.all_eq_true, List.mem_filter, List.mem_map, decide_eq_true_eq]
  constructor
  · intro ready r mem low high
    have done := ready _ ⟨⟨r, mem, rfl⟩, by rw [(kept r _ _).1]; exact ⟨low, high⟩⟩
    rwa [(kept r _ _).2] at done
  · rintro ready _ ⟨⟨r, mem, rfl⟩, range⟩
    rw [(kept r _ _).1] at range
    rw [(kept r _ _).2]
    exact ready r mem range.1 range.2

theorem State.formVehicle_of_ready {s : State} (numbered : s.Numbered) {final : Bool} {cls pattern : Option Nat}
    {count set : Nat} {v : Vehicle} (new : v = s.newVehicle final cls pattern count set) :
    s.formVehicle final cls pattern count set =
      if ∀ r ∈ s.axles.records, v.first ≤ r.ordinal → r.ordinal < v.first + v.count → r.status = .done then
        ((s.joinVehicle v).raiseUnclassified v).judge v
      else (s.joinVehicle v).raiseUnclassified v := by
  have index : v.index = s.group.vehicles.length + 1 := by rw [new]; rfl
  have unjudged : v.judged = false := by rw [new]; rfl
  obtain ⟨group, records⟩ := (s.joinVehicle v).raiseUnclassified_frame v
  have found : ((s.joinVehicle v).raiseUnclassified v).vehicle? (s.group.vehicles.length + 1) = some v := by
    rw [State.vehicle?, group]
    exact State.joinVehicle_vehicle numbered index
  have axles : ((s.joinVehicle v).raiseUnclassified v).vehicleRecords v = (s.joinVehicle v).vehicleRecords v := by
    rw [State.vehicleRecords, records]
    rfl
  rw [State.formVehicle_eq numbered, ← new]
  unfold State.judgeIfReady
  simp only [found, unjudged, axles, Bool.not_false, Bool.true_and]
  exact if_congr (s.joinVehicle_ready v) rfl rfl

theorem State.formVehicle_vehicles {s : State} (numbered : s.Numbered) (final : Bool) (cls pattern : Option Nat)
    (count set : Nat) :
    (s.formVehicle final cls pattern count set).group.vehicles.map (fun v => (v.index, v.count)) =
      s.group.vehicles.map (fun v => (v.index, v.count)) ++ [(s.group.vehicles.length + 1, count)] := by
  obtain ⟨group, -⟩ := (s.joinVehicle (s.newVehicle final cls pattern count set)).raiseUnclassified_frame
    (s.newVehicle final cls pattern count set)
  have joined : ((s.joinVehicle (s.newVehicle final cls pattern count set)).raiseUnclassified
      (s.newVehicle final cls pattern count set)).group.vehicles =
      s.group.vehicles ++ [s.newVehicle final cls pattern count set] := by rw [group]; rfl
  rw [State.formVehicle_eq numbered, State.judgeIfReady_vehicles, joined]
  · simp [State.newVehicle]
  · rw [joined, List.map_append, numbered]
    simp only [State.newVehicle, List.map_singleton]
    rw [Nat.add_comm s.group.vehicles.length 1, ← List.range'_1_concat]
    exact List.nodup_range'

theorem State.formVehicle_numbered {s : State} (numbered : s.Numbered) (final : Bool) (cls pattern : Option Nat)
    (count set : Nat) : (s.formVehicle final cls pattern count set).Numbered := by
  have listed := State.formVehicle_vehicles numbered final cls pattern count set
  have length := congrArg List.length listed
  have indices := congrArg (List.map Prod.fst) listed
  simp only [List.length_map, List.length_append, List.length_singleton] at length
  simp only [List.map_map, List.map_append, List.map_singleton, Function.comp_def] at indices
  rw [State.Numbered, indices, length, numbered, List.range'_1_concat, Nat.add_comm 1]

/-! ## A run as a chain of formations (R123) -/

/-- One formation of a run: the decision at the cursor, taken while the cursor stands on a record. -/
def State.Forms (final : Bool) (s t : State) : Prop :=
  s.group.cursor ≤ s.axles.records.length ∧ ∃ cls pattern count set,
    s.decideVehicle final = .form cls pattern count set ∧ t = s.formVehicle final cls pattern count set

theorem State.segment_chain {final : Bool} (n : Nat) {s : State} (numbered : s.Numbered) :
    Relation.ReflTransGen (fun x y => x.Numbered ∧ x.Forms final y) s (State.segment final n s) := by
  induction n generalizing s with
  | zero => exact .refl
  | succ n ih =>
    unfold State.segment
    split
    · exact .refl
    · next on =>
      split
      · exact .refl
      · next cls pattern count set forms =>
        exact .head ⟨numbered, by omega, cls, pattern, count, set, forms, rfl⟩ (ih (State.formVehicle_numbered numbered ..))

/-- What a chain of formations keeps, and the counts it appends. -/
theorem State.chain_counts {final : Bool} {s t : State} (numbered : s.Numbered)
    (sizes : ∀ (j : Fin 64) (p : Pattern), s.tables.active.patterns[j] = .valid p → 1 ≤ p.n ∧ p.n ≤ 8)
    (chain : Relation.ReflTransGen (fun x y => x.Numbered ∧ x.Forms final y) s t) :
    t.Numbered ∧ t.tables = s.tables ∧ t.group.notices = s.group.notices ∧
      ∃ counts : List Nat, t.group.vehicles.map (·.count) = s.group.vehicles.map (·.count) ++ counts ∧
        (∀ n ∈ counts, 1 ≤ n ∧ n ≤ 8) ∧ t.group.cursor = s.group.cursor + counts.sum := by
  induction chain with
  | refl => exact ⟨numbered, rfl, rfl, [], by simp, nofun, by simp⟩
  | @tail x y _ step ih =>
    obtain ⟨here, -, cls, pattern, count, set, forms, rfl⟩ := step
    obtain ⟨-, tables, notices, counts, listed, range, cursor⟩ := ih
    have size : 1 ≤ count ∧ count ≤ 8 := by
      rcases State.decideVehicle_count forms with ⟨j, p, entry, rfl⟩ | range
      · exact sizes j p (tables ▸ entry)
      · exact range
    have appended := congrArg (List.map Prod.snd) (State.formVehicle_vehicles here final cls pattern count set)
    simp only [List.map_map, List.map_append, List.map_singleton, Function.comp_def] at appended
    refine ⟨State.formVehicle_numbered here .., by simp [tables], (x.formVehicle_cursor ..).2.trans notices,
      counts ++ [count], ?_, ?_, ?_⟩
    · rw [appended, listed, List.append_assoc]
    · intro n mem
      rcases List.mem_append.1 mem with old | new
      · exact range n old
      · rwa [List.mem_singleton.1 new]
    · rw [(x.formVehicle_cursor ..).1, cursor, List.sum_append, List.sum_singleton, Nat.add_assoc]

/-- Settles O44: a run is a chain of formations, whose fuel the records above the cursor give. -/
theorem segmentationRuns : Obligations.SegmentationRuns := by
  refine ⟨fun s dt opened noticed numbered sizes => ?_, ?_⟩
  · obtain ⟨u, taken⟩ : ∃ u : State, u = { s.advance dt with group.notices := s.group.notices - 1 } := ⟨_, rfl⟩
    have row : exec (.segmentationRun dt) s = .next (u.runSegmentation false) := by
      rw [taken]
      have opened' : (s.advance dt).sessionOpen = true := opened
      exact if_neg (by simp [noticed, opened'])
    have numbered' : u.Numbered := by rw [taken]; exact numbered
    have sizes' (j : Fin 64) (p : Pattern) (entry : u.tables.active.patterns[j] = .valid p) : 1 ≤ p.n ∧ p.n ≤ 8 :=
      sizes j p (by rw [taken] at entry; exact entry)
    obtain ⟨still, -, notices, counts⟩ := State.chain_counts numbered' sizes' (State.segment_chain (final := false) _ numbered')
    have ends := State.segment_end (final := false) (s := u) (u.axles.records.length + 1)
      (fun j p entry => (sizes' j p entry).1) (by omega)
    have ordinals := (u.runSegmentation_calm false).ordinals
    refine ⟨_, row, by rw [taken], ?_⟩
    rw [taken] at notices ordinals counts still ends ⊢
    exact ⟨notices, ends, ordinals, still, counts⟩
  · intro s final numbered formed
    refine Relation.ReflTransGen.mono (fun x y step => ?_) _ _ (State.segment_chain _ numbered)
    obtain ⟨here, on, cls, pattern, count, set, forms, rfl⟩ := step
    refine ⟨on, cls, pattern, count, set, forms, ?_⟩
    rw [State.formVehicle_of_ready here rfl]
    rfl

end Sys2Proof.Machine

/-!
PROOFS. Chapter 7, third part: the tests of an axle, the judgement of a vehicle and the outlier test.
-/

namespace Sys2Proof.Machine

/-! ## The tests of one axle (R131 to R133) -/

theorem Quantity.atLeast_iff (q : Quantity) (limit : Nat) :
    q.atLeast limit = true ↔ ∃ v m, q = .present v m ∧ (limit : Int) ≤ v := by
  cases q <;> simp [Quantity.atLeast]

theorem Quantity.value?_eq_some_iff (q : Quantity) (v : Int) : q.value? = some v ↔ ∃ m, q = .present v m := by
  cases q <;> simp [Quantity.value?]

theorem impactTest_iff (th : Threshold) (bands : SpeedBands) (r : AxleRecord) (rail : Rail) :
    impactTest th bands r rail = true ↔
      (∃ sp msp v m, r.speed = .present sp msp ∧ (r.load.get rail).increment = .present v m ∧
        (th.impact[bands.bandOf sp] : Int) ≤ v) ∨
      ∃ v m, (r.load.get rail).ratio = .present v m ∧ (th.ratio : Int) ≤ v := by
  unfold impactTest
  rw [Bool.or_eq_true, Quantity.atLeast_iff]
  refine or_congr ?_ Iff.rfl
  cases r.speed with
  | present sp msp => simp [Quantity.atLeast_iff]
  | _ => simp

theorem imbalance_le_iff (n : Nat) (l r : Quantity) : (∃ k, imbalance l r = some k ∧ n ≤ k) ↔
    ∃ x y mx my, l = .present x mx ∧ r = .present y my ∧ 0 < x + y ∧ (n : Int) ≤ |x - y| * 100 / (x + y) := by
  cases l with
  | present x mx =>
    cases r with
    | present y my =>
      by_cases loaded : 0 < x + y
      · have cast : ((x - y).natAbs * 100 / (x + y).toNat : Nat) = |x - y| * 100 / (x + y) := by
          push_cast [Int.toNat_of_nonneg loaded.le]
          rfl
        simp only [imbalance, if_pos loaded, Option.some.injEq, exists_eq_left', ← Int.ofNat_le, cast]
        simp [loaded]
      · simp [imbalance, loaded]
    | _ => simp [imbalance]
  | _ => simp [imbalance]

theorem loadTest_iff (th : Threshold) (r : AxleRecord) : loadTest th r = true ↔
    (∃ v m, r.axleLoad = .present v m ∧ (th.axleLoad : Int) ≤ v) ∨
      ∃ k, imbalance r.load.r1.static r.load.r2.static = some k ∧ th.imbalance ≤ k := by
  unfold loadTest
  rw [Bool.or_eq_true, Quantity.atLeast_iff]
  refine or_congr Iff.rfl ?_
  cases imbalance r.load.r1.static r.load.r2.static <;> simp

/-- The kinds an axle raises, test by test (R130). -/
theorem mem_axleRaises (k : AlertKind) (th : Threshold) (bands : SpeedBands) (r : AxleRecord) :
    k ∈ axleRaises th bands r ↔
      (k = .s5 ∧ ∃ rail, impactTest th bands r rail = true) ∨ (k = .s6 ∧ loadTest th r = true) ∨
      (k = .s4 ∧ ((∃ rail, (r.bearing.get rail).rise.atLeast th.rise = true) ∨ r.sideDiff.atLeast th.difference = true)) := by
  have rails (p : Rail → Prop) : (∃ rail, p rail) ↔ p .r1 ∨ p .r2 :=
    ⟨fun ⟨rail, h⟩ => by cases rail <;> tauto, fun h => h.elim (⟨.r1, ·⟩) (⟨.r2, ·⟩)⟩
  have one (c : Bool) (j : AlertKind) : k ∈ (if c then [j] else []) ↔ k = j ∧ c = true := by cases c <;> simp
  simp only [axleRaises, List.mem_append, one, rails, PerRail.get]
  tauto

theorem axleRaises_sublist (th : Threshold) (bands : SpeedBands) (r : AxleRecord) :
    (axleRaises th bands r).Sublist [.s5, .s5, .s6, .s4, .s4, .s4] := by
  have one (c : Bool) (j : AlertKind) : (if c then [j] else []).Sublist [j] := by cases c <;> simp
  exact (((((one _ _).append (one _ _)).append (one _ _)).append (one _ _)).append (one _ _)).append (one _ _)

/-! ## The verdict list (R134) -/

theorem addKind_mem (l : List AlertKind) (k j : AlertKind) : j ∈ addKind l k ↔ j ∈ l ∨ j = k := by
  unfold addKind
  split
  · next has => exact ⟨.inl, fun h => h.elim id (· ▸ has)⟩
  · simp

theorem addKind_idem (l : List AlertKind) (k : AlertKind) : addKind (addKind l k) k = addKind l k :=
  if_pos ((addKind_mem l k k).2 (.inr rfl))

theorem eraseDups_of_nodup {l : List AlertKind} (nodup : l.Nodup) : l.eraseDups = l := by
  induction l with
  | nil => rfl
  | cons k l ih =>
    obtain ⟨new, rest⟩ := List.nodup_cons.1 nodup
    have same : l.filter (fun b => !b == k) = l := List.filter_eq_self.2 fun j mem => by
      simp [show j ≠ k from fun h => new (h ▸ mem)]
    rw [List.eraseDups_cons, same, ih rest]

/-- Kinds added one by one to a list without repeats, each once. -/
theorem foldl_addKind (l : List AlertKind) {acc : List AlertKind} (nodup : acc.Nodup) :
    l.foldl addKind acc = (acc ++ l).eraseDups := by
  induction l generalizing acc with
  | nil => rw [List.append_nil, eraseDups_of_nodup nodup]; rfl
  | cons k l ih =>
    rw [List.foldl_cons]
    by_cases has : k ∈ acc
    · have skipped : (k :: l).removeAll acc = l.removeAll acc := by simp [List.removeAll, has]
      rw [show addKind acc k = acc from if_pos has, ih nodup, List.eraseDups_append, List.eraseDups_append, skipped]
    · have grown : addKind acc k = acc ++ [k] := if_neg has
      have still : (acc ++ [k]).Nodup := List.nodup_append_comm.1 (List.nodup_cons.2 ⟨has, nodup⟩)
      rw [grown, ih still, List.append_assoc, List.singleton_append]

/-- The verdict list of a judged vehicle (R134). -/
theorem foldl_addKind_twice (l m : List AlertKind) {acc : List AlertKind} (nodup : acc.Nodup) :
    m.foldl addKind (l.foldl addKind acc) = (acc ++ l ++ m).eraseDups := by
  rw [← List.foldl_append, foldl_addKind _ nodup, List.append_assoc]

/-! ## The raises of a vehicle's axles (R130) -/

theorem State.raiseAxles_count (th : Threshold) (bands : SpeedBands) (rs : List AxleRecord) (j : AlertKind) {s : State}
    (within : (s.alertEntry j).count ≤ 65535) :
    ((s.raiseAxles th bands rs).alertEntry j).count =
      min ((s.alertEntry j).count + (rs.flatMap (axleRaises th bands)).count j) 65535 := by
  induction rs generalizing s with
  | nil => simp [State.raiseAxles, Nat.min_eq_left within]
  | cons r rs ih =>
    have first := State.raiseAll_count (.axle s.session.seq r.ordinal) (axleRaises th bands r) j s within
    rw [State.raiseAxles, ih (first ▸ Nat.min_le_right _ _), first, List.flatMap_cons, List.count_append]
    omega

theorem State.raiseAll_results (src : Source) (l : List AlertKind) (s : State) :
    (s.raiseAll src l).port.resultQ = s.port.resultQ := by
  induction l generalizing s with
  | nil => rfl
  | cons k l ih => rw [State.raiseAll, ih, State.raise_changes]

theorem State.raiseAxles_results (th : Threshold) (bands : SpeedBands) (rs : List AxleRecord) (s : State) :
    (s.raiseAxles th bands rs).port.resultQ = s.port.resultQ := by
  induction rs generalizing s with
  | nil => rfl
  | cons r rs ih => rw [State.raiseAxles, ih, State.raiseAll_results]

theorem State.offerResult_of_room {s : State} {sc : SiteConstants} (f : OutFrame) (site : s.site = some sc)
    (live : sc.liveResults = true) (room : s.port.resultQ.length < 64) :
    s.offerResult f = { s with port.resultQ := s.port.resultQ ++ [f] } := by
  simp [State.offerResult, site, live, resultCapacity, room]

/-! ## The judgement of a vehicle (R130, R134, R169) -/

/-- The raises of a judgement: none without a valid threshold set (R130). -/
def State.raiseJudged (s : State) (v : Vehicle) : State :=
  (s.threshold? v.set).elim s fun th => s.raiseAxles th s.tables.active.bands (s.vehicleRecords v)

/-- The record a judgement writes. -/
def State.judged (s : State) (v : Vehicle) : Vehicle :=
  v.judge (s.vehicleRecords v) (s.threshold? v.set) s.tables.active.bands

theorem State.raiseJudged_keeps (s : State) (v : Vehicle) :
    (s.raiseJudged v).session = s.session ∧ (s.raiseJudged v).group = s.group ∧ (s.raiseJudged v).tables = s.tables ∧
      (s.raiseJudged v).port.resultQ = s.port.resultQ := by
  unfold State.raiseJudged
  cases s.threshold? v.set with
  | none => exact ⟨rfl, rfl, rfl, rfl⟩
  | some th => simp [State.raiseAxles_results]

theorem State.judge_eq (s : State) (v : Vehicle) : s.judge v =
    ((s.raiseJudged v).updVehicle v.index fun _ => s.judged v).offerResult
      (.vehicleResult s.session.seq (s.judged v)) := by
  have seq : (s.raiseJudged v).session.seq = s.session.seq := by rw [(s.raiseJudged_keeps v).1]
  rw [← seq]
  unfold State.judge State.raiseJudged State.judged
  dsimp only
  cases s.threshold? v.set <;> rfl

theorem State.vehicle?_map {s t : State} {f : Vehicle → Vehicle} (listed : t.group.vehicles = s.group.vehicles.map f)
    (index : ∀ v, (f v).index = v.index) (i : Nat) : t.vehicle? i = (s.vehicle? i).map f := by
  simp only [State.vehicle?, listed, List.find?_map]
  congr 2
  funext v
  exact congrArg (· == i) (index v)

/-- The Vehicle List after a judgement (R134). -/
theorem State.judge_vehicle? (s : State) (v : Vehicle) (i : Nat) : (s.judge v).vehicle? i =
    (s.vehicle? i).map fun x => if x.index = v.index then s.judged v else x := by
  refine State.vehicle?_map (by rw [State.judge_group]; rfl) (fun x => ?_) i
  split
  · next same => exact same.symm
  · rfl

theorem State.judge_entry (s : State) (v : Vehicle) (k : AlertKind) :
    (s.judge v).alertEntry k = (s.raiseJudged v).alertEntry k := by
  rw [State.judge_eq]
  simp [State.alertEntry]

/-! ## The outlier test of a rail (R116) -/

/-- An axle whose rise reaches the mean plus the margin of its threshold set. -/
def State.isOutlier (s : State) (mean : Int) (rail : Rail) (r : AxleRecord) : Bool :=
  match (r.bearing.get rail).rise, s.threshold? (s.setOfAxle r) with
  | .present v _, some th => decide (mean + th.outlierMargin ≤ v)
  | _, _ => false

theorem State.isOutlier_iff (s : State) (mean : Int) (rail : Rail) (r : AxleRecord) :
    s.isOutlier mean rail r = true ↔ ∃ v m th, (r.bearing.get rail).rise = .present v m ∧
      s.threshold? ((r.vehicle.bind s.vehicle?).elim 0 (·.set)) = some th ∧ mean + th.outlierMargin ≤ v := by
  have set : s.setOfAxle r = (r.vehicle.bind s.vehicle?).elim 0 (·.set) := by
    unfold State.setOfAxle
    cases r.vehicle.bind s.vehicle? <;> rfl
  unfold State.isOutlier
  rw [set]
  cases (r.bearing.get rail).rise with
  | present v m =>
    cases s.threshold? ((r.vehicle.bind s.vehicle?).elim 0 (·.set)) <;> simp
  | _ => simp

/-- A vehicle with S7 among its verdicts. -/
def Vehicle.noteOutlier (v : Vehicle) : Vehicle := { v with verdicts := addKind v.verdicts .s7 }

/-- A record with S7 in its alert list. -/
def AxleRecord.noteOutlier (r : AxleRecord) : AxleRecord := { r with alerts := addKind r.alerts .s7 }

theorem Vehicle.noteOutlier_idem (v : Vehicle) : v.noteOutlier.noteOutlier = v.noteOutlier := by
  simp [Vehicle.noteOutlier, addKind_idem]

theorem AxleRecord.noteOutlier_idem (r : AxleRecord) : r.noteOutlier.noteOutlier = r.noteOutlier := by
  simp [AxleRecord.noteOutlier, addKind_idem]

theorem State.testOutlier_of_not {s : State} {mean : Int} {rail : Rail} {r : AxleRecord}
    (not : s.isOutlier mean rail r = false) : s.testOutlier mean rail r = s := by
  unfold State.isOutlier at not
  unfold State.testOutlier
  split
  · next v m th rise set =>
    simp only [rise, set, decide_eq_false_iff_not] at not
    exact if_neg not
  · rfl

/-- What the test of an outlier leaves: a raise, and the verdict of the vehicle its axle belongs to. -/
theorem State.testOutlier_of_outlier {s : State} {mean : Int} {rail : Rail} {r : AxleRecord}
    (outlier : s.isOutlier mean rail r = true) : s.testOutlier mean rail r =
      { s.raise .s7 (.axle s.session.seq r.ordinal) with
        group.vehicles := s.group.vehicles.map fun v => if r.vehicle = some v.index then v.noteOutlier else v } := by
  have group : (s.raise .s7 (.axle s.session.seq r.ordinal)).group = s.group := by simp
  unfold State.isOutlier at outlier
  unfold State.testOutlier
  split
  · next v m th rise set =>
    simp only [rise, set, decide_eq_true_eq] at outlier
    refine (if_pos outlier).trans ?_
    dsimp only
    cases vehicle : r.vehicle with
    | none =>
      simp only [reduceCtorEq, if_false, List.map_id']
      rw [← group]
    | some i =>
      simp only [State.updVehicle, group, Option.some.injEq, eq_comm (a := i)]
      rfl
  · next other =>
    split at outlier
    · next v m th rise set => exact absurd set (other v m th rise)
    · cases outlier

theorem State.isOutlier_congr {s t : State} (tables : t.tables = s.tables)
    (sets : ∀ i, (t.vehicle? i).map (·.set) = (s.vehicle? i).map (·.set)) (mean : Int) (rail : Rail) (r : AxleRecord) :
    t.isOutlier mean rail r = s.isOutlier mean rail r := by
  have number : t.setOfAxle r = s.setOfAxle r := by
    unfold State.setOfAxle
    cases r.vehicle with
    | none => rfl
    | some i =>
      have same := sets i
      simp only [Option.bind_some]
      cases after : t.vehicle? i <;> cases before : s.vehicle? i <;> simp_all
  simp only [State.isOutlier, number, State.threshold?, tables]

/-- No test of an outlier changes which axles are outliers. -/
theorem State.isOutlier_testOutlier (s : State) (mean : Int) (rail : Rail) (r x : AxleRecord) :
    (s.testOutlier mean rail r).isOutlier mean rail x = s.isOutlier mean rail x := by
  refine State.isOutlier_congr (by simp) (fun i => ?_) mean rail x
  cases outlier : s.isOutlier mean rail r with
  | false => rw [State.testOutlier_of_not outlier]
  | true =>
    rw [State.testOutlier_of_outlier outlier]
    rw [State.vehicle?_map (s := s) rfl (fun v => by split <;> rfl), Option.map_map]
    refine congrArg (Option.map · _) (funext fun v => ?_)
    dsimp only [Function.comp]
    split <;> rfl

theorem State.testOutlier_tableSeq (s : State) (mean : Int) (rail : Rail) (r : AxleRecord) :
    (s.testOutlier mean rail r).axles.tableSeq = s.axles.tableSeq := by
  cases outlier : s.isOutlier mean rail r with
  | false => rw [State.testOutlier_of_not outlier]
  | true =>
    have kept : (s.raise .s7 (.axle s.session.seq r.ordinal)).axles.tableSeq = s.axles.tableSeq := by
      rw [State.raise_changes]
    rw [State.testOutlier_of_outlier outlier]
    exact kept

/-- The Alert Table after the tests of a list of axles: one raise of S7 for each outlier. -/
theorem State.testOutliers_entries (mean : Int) (rail : Rail) (l : List AxleRecord) {s : State}
    (within : (s.alertEntry .s7).count ≤ 65535) :
    ((State.testOutliers mean rail l s).alertEntry .s7).count =
        min ((s.alertEntry .s7).count + (l.filter (s.isOutlier mean rail)).length) 65535 ∧
      ∀ j : AlertKind, j ≠ .s7 → (State.testOutliers mean rail l s).alertEntry j = s.alertEntry j := by
  induction l generalizing s with
  | nil => exact ⟨by simp [State.testOutliers, Nat.min_eq_left within], fun _ _ => rfl⟩
  | cons r l ih =>
    have same : (s.testOutlier mean rail r).isOutlier mean rail = s.isOutlier mean rail :=
      funext (s.isOutlier_testOutlier mean rail r)
    simp only [State.testOutliers]
    cases outlier : s.isOutlier mean rail r with
    | false =>
      rw [State.testOutlier_of_not outlier, List.filter_cons_of_neg (by simp [outlier])]
      exact ih within
    | true =>
      have entry (j : AlertKind) : (s.testOutlier mean rail r).alertEntry j =
          (s.raise .s7 (.axle s.session.seq r.ordinal)).alertEntry j := by
        rw [State.testOutlier_of_outlier outlier]
        rfl
      have counted : ((s.testOutlier mean rail r).alertEntry .s7).count = min ((s.alertEntry .s7).count + 1) 65535 := by
        rw [entry, State.raise_entry_self]
        rfl
      obtain ⟨count, others⟩ := ih (s := s.testOutlier mean rail r) (counted ▸ Nat.min_le_right _ _)
      rw [List.filter_cons_of_pos outlier, List.length_cons]
      refine ⟨?_, fun j other => ?_⟩
      · rw [count, counted, same]
        omega
      · rw [others j other, entry, State.raise_entry_ne s _ other]

/-- The records after the tests of a list of axles of the table's own session. -/
theorem State.testOutliers_records (mean : Int) (rail : Rail) (l : List AxleRecord) {s : State}
    (own : s.axles.tableSeq = s.session.seq) :
    (State.testOutliers mean rail l s).axles.records = s.axles.records.map fun x =>
      if ∃ r ∈ l, s.isOutlier mean rail r = true ∧ r.ordinal = x.ordinal then x.noteOutlier else x := by
  induction l generalizing s with
  | nil => simp [State.testOutliers]
  | cons r l ih =>
    have same := s.isOutlier_testOutlier mean rail r
    have later := ih (s := s.testOutlier mean rail r) (by simp [State.testOutlier_tableSeq, own])
    simp only [State.testOutliers, later, same]
    cases outlier : s.isOutlier mean rail r with
    | false => simp [State.testOutlier_of_not outlier, outlier]
    | true =>
      have here : (s.testOutlier mean rail r).axles.records =
          s.axles.records.map fun x => if x.ordinal = r.ordinal then x.noteOutlier else x := by
        rw [State.testOutlier_of_outlier outlier]
        exact State.raise_records_of_named .s7 (by rw [own])
      rw [here, List.map_map]
      refine List.map_congr_left fun x _ => ?_
      by_cases this : x.ordinal = r.ordinal
      · simp [this, outlier, AxleRecord.noteOutlier_idem]
      · simp [this, Ne.symm this, outlier]

theorem State.record?_map {s t : State} {f : AxleRecord → AxleRecord} (listed : t.axles.records = s.axles.records.map f)
    (ordinal : ∀ r, (f r).ordinal = r.ordinal) (k : Nat) : t.record? k = (s.record? k).map f := by
  simp only [State.record?, listed, List.find?_map]
  congr 2
  funext r
  exact congrArg (· == k) (ordinal r)

/-- The vehicles after the tests of a list of axles. -/
theorem State.testOutliers_vehicles (mean : Int) (rail : Rail) (l : List AxleRecord) (s : State) :
    (State.testOutliers mean rail l s).group.vehicles = s.group.vehicles.map fun v =>
      if ∃ r ∈ l, s.isOutlier mean rail r = true ∧ r.vehicle = some v.index then v.noteOutlier else v := by
  induction l generalizing s with
  | nil => simp [State.testOutliers]
  | cons r l ih =>
    have same := s.isOutlier_testOutlier mean rail r
    simp only [State.testOutliers, ih, same]
    cases outlier : s.isOutlier mean rail r with
    | false => simp [State.testOutlier_of_not outlier, outlier]
    | true =>
      rw [State.testOutlier_of_outlier outlier, List.map_map]
      refine List.map_congr_left fun x _ => ?_
      by_cases this : r.vehicle = some x.index
      · simp [this, outlier, Vehicle.noteOutlier_idem]
      · simp [this, outlier]

/-- An axle's raises by its tests (R131 to R133). -/
theorem axleRaises_by_tests (th : Threshold) (bands : SpeedBands) (r : AxleRecord) :
    (.s5 ∈ axleRaises th bands r ↔ ∃ rail, impactTest th bands r rail = true) ∧
    (.s6 ∈ axleRaises th bands r ↔ loadTest th r = true) ∧
    (.s4 ∈ axleRaises th bands r ↔
      (∃ rail, (r.bearing.get rail).rise.atLeast th.rise = true) ∨ r.sideDiff.atLeast th.difference = true) := by
  simp [mem_axleRaises]

/-- Settles O46: an axle's raises by its tests; a judgement by the record it writes and the raises it makes; the outlier test
by the one raise of each outlier. -/
theorem axleTestsRaise : Obligations.AxleTestsRaise := by
  refine ⟨fun th bands r => ?_, ?_, ?_⟩
  · obtain ⟨impact, load, bearing⟩ := axleRaises_by_tests th bands r
    simp only [impactTest_iff] at impact
    rw [loadTest_iff, imbalance_le_iff] at load
    simp only [Quantity.atLeast_iff] at bearing
    refine ⟨impact, load, bearing, fun k mem => ?_, axleRaises_sublist th bands r⟩
    simpa using (axleRaises_sublist th bands r).subset mem
  · intro s v found nodup within t axles loads critical raises untested
    refine ⟨s.judged v, ?_, ?_, ?_, fun j other => ?_, fun k => ?_, fun sc site live room => ?_⟩
    · rw [State.judge_vehicle?, found]
      exact congrArg some (if_pos rfl)
    · have values : axles.filterMap (·.axleLoad.value?) = loads := List.filterMap_congr fun r _ => by
        cases r.axleLoad <;> rfl
      have kinds : criticalKinds axles = critical := by
        simp only [criticalKinds, critical, List.contains_eq_mem]
      have raised : (match s.threshold? v.set with
          | some th => axles.flatMap (axleRaises th s.tables.active.bands)
          | none => []) = raises := rfl
      have total : (s.judged v).total = some (loads.sum, loads.length) := by
        rw [← values, ← sumInt_eq_sum]
        rfl
      have verdicts : (s.judged v).verdicts = (v.verdicts ++ critical ++ raises).eraseDups := by
        rw [← kinds, ← raised, ← foldl_addKind_twice _ _ nodup]
        rfl
      rw [← total, ← verdicts]
      rfl
    · have marked : (s.judged v).isPartial = ((s.threshold? v.set).isSome &&
          axles.any fun r => (testedQuantities r).any fun q => !q.isPresent) := rfl
      rw [marked, Bool.and_eq_true, Option.isSome_iff_ne_none]
      refine and_congr Iff.rfl ?_
      simp only [List.any_eq_true]
      refine exists_congr fun r => and_congr Iff.rfl ?_
      refine exists_congr fun q => and_congr Iff.rfl ?_
      cases q <;> simp [Quantity.isPresent, Quantity.value?]
    · rw [State.judge_vehicle?]
      cases there : s.vehicle? j with
      | none => rfl
      | some x =>
        have index := State.vehicle?_index there
        exact congrArg some (if_neg (by rw [index]; exact other))
    · rw [State.judge_entry]
      unfold State.raiseJudged
      simp only [raises]
      cases s.threshold? v.set with
      | none => simp [Nat.min_eq_left (within k)]
      | some th => exact State.raiseAxles_count th _ _ k (within k)
    · obtain ⟨-, -, tables, results⟩ := s.raiseJudged_keeps v
      have site' : ((s.raiseJudged v).updVehicle v.index fun _ => s.judged v).site = some sc := by
        simp only [State.site, State.updVehicle_frame, tables]
        exact site
      have row := State.offerResult_of_room (.vehicleResult s.session.seq (s.judged v)) site' live (by simpa [results] using room)
      rw [show t = _ from (s.judge_eq v).trans row]
      simp only [State.updVehicle_frame, results]
  · intro s rail rises t
    have values : s.axles.records.filterMap (fun r => (r.bearing.get rail).rise.value?) = rises :=
      List.filterMap_congr fun r _ => by cases (r.bearing.get rail).rise <;> rfl
    have split : t = if rises.length < 8 then
          { s with session.record.outlierNotTested := s.session.record.outlierNotTested.set rail true }
        else State.testOutliers (roundDiv rises.sum rises.length) rail s.axles.records s := by
      rw [← values, ← sumInt_eq_sum]
      rfl
    refine ⟨fun few => split.trans (if_pos few), fun many sound own within => ?_⟩
    intro outlier
    rw [if_neg (by omega)] at split
    obtain ⟨mean, isMean⟩ : ∃ mean, mean = roundDiv rises.sum rises.length := ⟨_, rfl⟩
    rw [← isMean] at split
    have test (r : AxleRecord) : s.isOutlier mean rail r = true ↔ outlier r := by
      rw [State.isOutlier_iff, isMean]
    have distinct : (s.axles.records.map (·.ordinal)).Nodup := sound.ordinals ▸ List.nodup_range'
    obtain ⟨count, others⟩ := State.testOutliers_entries mean rail s.axles.records within
    have records := State.testOutliers_records mean rail s.axles.records own
    have vehicles := State.testOutliers_vehicles mean rail s.axles.records s
    rw [← split] at count others records vehicles
    have held {k : Nat} {r : AxleRecord} (found : s.record? k = some r) : r ∈ s.axles.records ∧ r.ordinal = k :=
      ⟨List.mem_of_find?_eq_some found, State.record?_ordinal found⟩
    have lookup {r : AxleRecord} (mem : r ∈ s.axles.records) : s.record? r.ordinal = some r := by
      cases found : s.record? r.ordinal with
      | none => exact absurd (by simp) (List.find?_eq_none.1 found r mem)
      | some x =>
        obtain ⟨inside, same⟩ := held found
        rw [List.inj_on_of_nodup_map distinct inside mem same]
    refine ⟨by rw [split]; simp, fun ks nodup listed => ?_, others, fun k r found => ?_, fun i v found => ?_⟩
    · have ordinals : ((s.axles.records.filter (s.isOutlier mean rail)).map (·.ordinal)).Perm ks := by
        refine (List.perm_ext_iff_of_nodup (distinct.sublist (List.filter_sublist.map _)) nodup).2 fun k => ?_
        rw [listed, List.mem_map]
        constructor
        · rintro ⟨r, mem, rfl⟩
          obtain ⟨inside, out⟩ := List.mem_filter.1 mem
          exact ⟨r, lookup inside, (test r).1 out⟩
        · rintro ⟨r, found, out⟩
          exact ⟨r, List.mem_filter.2 ⟨(held found).1, (test r).2 out⟩, (held found).2⟩
      rw [count, ← ordinals.length_eq, List.length_map]
    · obtain ⟨inside, ordinal⟩ := held found
      have hit : (∃ x ∈ s.axles.records, s.isOutlier mean rail x = true ∧ x.ordinal = r.ordinal) ↔ outlier r := by
        rw [← test]
        refine ⟨fun ⟨x, mem, out, same⟩ => ?_, fun out => ⟨r, inside, out, rfl⟩⟩
        rwa [← List.inj_on_of_nodup_map distinct mem inside same]
      rw [State.record?_map records (fun x => by split <;> rfl), found, Option.map_some]
      refine ⟨fun ⟨out, new⟩ => congrArg some ?_, fun kept => congrArg some ?_⟩
      · rw [if_pos (hit.2 out), AxleRecord.noteOutlier, addKind, if_neg new]
      · by_cases out : outlier r
        · rw [if_pos (hit.2 out), AxleRecord.noteOutlier, addKind, if_pos (kept.resolve_left (not_not_intro out))]
        · rw [if_neg fun h => out (hit.1 h)]
    · have index := State.vehicle?_index found
      have hit : (∃ r ∈ s.axles.records, s.isOutlier mean rail r = true ∧ r.vehicle = some v.index) ↔
          ∃ k r, s.record? k = some r ∧ outlier r ∧ r.vehicle = some i := by
        rw [index]
        refine ⟨fun ⟨r, mem, out, own⟩ => ⟨_, r, lookup mem, (test r).1 out, own⟩, fun ⟨k, r, there, out, own⟩ =>
          ⟨r, (held there).1, (test r).2 out, own⟩⟩
      rw [State.vehicle?_map vehicles (fun x => by split <;> rfl), found, Option.map_some]
      refine ⟨fun ⟨out, new⟩ => congrArg some ?_, fun kept => congrArg some ?_⟩
      · rw [if_pos (hit.2 out), Vehicle.noteOutlier, addKind, if_neg new]
      · by_cases out : ∃ k r, s.record? k = some r ∧ outlier r ∧ r.vehicle = some i
        · obtain ⟨k, r, there, is, own⟩ := out
          have listed := kept.resolve_left fun none => none k r there is own
          rw [if_pos (hit.2 ⟨k, r, there, is, own⟩), Vehicle.noteOutlier, addKind, if_pos listed]
        · rw [if_neg fun h => out (hit.1 h)]

end Sys2Proof.Machine

/-!
PROOFS. Chapter 8: the commands to the alert unit, the camera pulses and the EXIT_PULSE condition.
-/

namespace Sys2Proof.Machine

/-! ## The commands to the alert unit (R141 to R143) -/

/-- A 32-bit field of four bytes. -/
theorem word_toNat (b0 b1 b2 b3 : Byte) (l : List Byte) : (word (b0 :: b1 :: b2 :: b3 :: l) 0).toNat =
    b0.toNat + 256 * b1.toNat + 65536 * b2.toNat + 16777216 * b3.toNat := by
  have low := toNat_append_bytes b1 b0
  have high := toNat_append_bytes b3 b2
  have join (x y : Half) : (x ++ y).toNat = y.toNat + 65536 * x.toNat := by
    rw [BitVec.toNat_append, Nat.shiftLeft_eq, ← Nat.mul_comm, ← Nat.two_pow_add_eq_or_of_lt y.isLt]
    omega
  refine (join (b3 ++ b2) (b1 ++ b0)).trans ?_
  omega

theorem kindOfCode_code (k : AlertKind) {b : Byte} (code : b.toNat = k.code) : kindOfCode b = some k := by
  unfold kindOfCode
  rw [code]
  cases k <;> rfl

theorem kindOfCode_none {b : Byte} (unknown : ∀ k : AlertKind, b.toNat ≠ k.code) : kindOfCode b = none :=
  List.find?_eq_none.2 fun k _ => by simpa using Ne.symm (unknown k)

theorem AlertKind.code_ne_all (k : AlertKind) : k.code ≠ 0xFF := by cases k <;> decide

/-- The first kind in priority order that is pending and enabled (R143). -/
theorem State.topKind_eq {s : State} {k : AlertKind} (pending : (s.alertEntry k).pending = true)
    (enabled : (s.alertEntry k).enabled = true)
    (first : ∀ j : AlertKind, j.idx < k.idx → (s.alertEntry j).pending = false ∨ (s.alertEntry j).enabled = false) :
    s.topKind = some k := by
  unfold State.topKind
  obtain ⟨inside, here⟩ := List.getElem?_eq_some_iff.1 k.all_getElem?_idx
  refine List.find?_eq_some_iff_getElem.2 ⟨by simp [pending, enabled], k.idx.val, inside, here, fun j early => ?_⟩
  have place : ∀ j : Fin 21, (AlertKind.all[j]).idx = j := by decide
  have lower : (AlertKind.all[j]).idx < k.idx := by
    rw [show AlertKind.all[j] = AlertKind.all[(⟨j, by omega⟩ : Fin 21)] from rfl, place]
    exact early
  rcases first _ lower with h | h <;> simp [h]

theorem State.topKind_eq_none {s : State}
    (silent : ∀ k : AlertKind, (s.alertEntry k).pending = false ∨ (s.alertEntry k).enabled = false) : s.topKind = none :=
  List.find?_eq_none.2 fun k _ => by rcases silent k with h | h <;> simp [h]

/-- Settles O48: each command by what the dispatcher hands it. -/
theorem alertCommandsAnswer : Obligations.AlertCommandsAnswer := by
  intro s dt tag rest room u
  refine ⟨fun b front => ?_, ?_, fun front => ?_⟩
  · have row : exec (.clearAlert dt) s =
        .next (State.serveClearAlert ⟨tag, [0x0C, b]⟩ { s.advance dt with port.commands := rest }) :=
      congrArg _ (State.serve_advance dt _ front room rfl)
    rw [row]
    have arg : byteAt (Command.args ⟨tag, [0x0C, b]⟩) 0 = b := rfl
    refine ⟨fun k code => ?_, fun all => ⟨_, rfl, ?_, fun k => ?_⟩, fun other unknown => ⟨Config.freeIndex s.freeCount, ?_⟩⟩
    · have notAll : b ≠ codeAll := fun same => k.code_ne_all (by rw [← code, same]; rfl)
      simp only [State.serveClearAlert, arg, if_neg notAll, kindOfCode_code k code]
      rfl
    · rw [State.serveClearAlert, arg, if_pos (show b = codeAll from all)]
      rfl
    · rw [State.serveClearAlert, arg, if_pos (show b = codeAll from all)]
      exact Vec.map_get _ _ _
    · simp only [State.serveClearAlert, arg, if_neg (show b ≠ codeAll from other), kindOfCode_none unknown]
      rfl
  · intro b0 b1 b2 b3 front mask
    have row : exec (.setAlertEnable dt) s =
        .next (State.serveSetAlertEnable ⟨tag, [0x0D, b0, b1, b2, b3]⟩ { s.advance dt with port.commands := rest }) :=
      congrArg _ (State.serve_advance dt _ front room rfl)
    rw [row]
    have arg : (word (Command.args ⟨tag, [0x0D, b0, b1, b2, b3]⟩) 0).toNat = mask := word_toNat b0 b1 b2 b3 []
    refine ⟨fun fits => ⟨_, rfl, ?_, fun k => ?_⟩, fun high => ⟨Config.freeIndex s.freeCount, ?_⟩⟩
    · simp only [State.serveSetAlertEnable, arg, if_neg (Nat.not_le.2 fits)]
      rfl
    · simp only [State.serveSetAlertEnable, arg, if_neg (Nat.not_le.2 fits)]
      rw [← arg]
      refine (Vector.getElem_ofFn ..).trans ?_
      rw [BitVec.testBit_toNat]
      rfl
    · simp only [State.serveSetAlertEnable, arg, if_pos high]
      rfl
  · have row : exec (.topAlert dt) s = .next (State.answer { s.advance dt with port.commands := rest } ⟨tag, [0x0B]⟩ .ok
        (State.topAlertBytes { s.advance dt with port.commands := rest })) :=
      congrArg _ (State.serve_advance dt _ front room rfl)
    rw [row]
    refine ⟨fun k pending enabled first => ?_, fun silent => ?_⟩
    · have top : State.topKind { s.advance dt with port.commands := rest } = some k := State.topKind_eq pending enabled first
      rw [State.topAlertBytes, top]
      rfl
    · have top : State.topKind { s.advance dt with port.commands := rest } = none := State.topKind_eq_none silent
      rw [State.topAlertBytes, top]
      rfl

/-! ## The gate unit (R147, R149, R150) -/

theorem insertPulse_between (p : CameraPulse) {q1 q2 : List CameraPulse} (before : ∀ x ∈ q1, older p.fire x.fire = false)
    (after : ∀ x, q2.head? = some x → older p.fire x.fire = true) : insertPulse p (q1 ++ q2) = q1 ++ p :: q2 := by
  induction q1 with
  | nil =>
    cases q2 with
    | nil => rfl
    | cons x q2 => exact if_pos (after x rfl)
  | cons x q1 ih =>
    have first := before x List.mem_cons_self
    simp only [List.cons_append, insertPulse, first, Bool.false_eq_true, if_false]
    rw [ih fun y mem => before y (List.mem_cons_of_mem _ mem)]

theorem State.startPulse_of_site {s : State} {sc : SiteConstants} (site : s.site = some sc) (p : CameraPulse) :
    s.startPulse p = ({ s with gate.pulse := some ⟨s.clock, sc.cameraWidth⟩ } : State).writeCamera p.seq p.ordinal
      (if s.clock = p.fire then .fired else .late) := by
  simp only [State.startPulse, State.cameraWidth, site]

/-- Settles O50: a pulse is placed by the first line of R149 that applies; the rows of G1 and G3 by their times. -/
theorem gatePulsesRun : Obligations.GatePulsesRun := by
  intro s outcome
  refine ⟨fun k c sc dir site direction => ⟨fun none => ?_, fun x camera => ?_⟩, fun p full => if_pos full,
    fun p sc due idle empty site => ?_, fun p q1 q2 queue space waits before after => ?_,
    ?_, fun dt p pulse => ?_, fun dt t pulse => ?_⟩
  · simp only [State.scheduleCamera, site, direction, none]
  · simp only [State.scheduleCamera, site, direction, camera]
    cases dir <;> rfl
  · rw [State.placePulse, if_neg (by simp [empty, cameraCapacity]), if_pos ⟨due, idle, empty⟩,
      State.startPulse_of_site site]
    rfl
  · rw [State.placePulse, if_neg (by simpa [cameraCapacity] using space), if_neg, queue, insertPulse_between p before after]
    rintro ⟨due, idle, empty⟩
    rcases waits with early | busy | some
    · simp [due] at early
    · exact busy idle
    · exact some empty
  · intro dt p q sc queue idle site due u
    have queue' : (s.advance dt).gate.queue = p :: q := queue
    have idle' : (s.advance dt).gate.pulse = none := idle
    simp only [exec, execCameraPulseStart, queue', idle']
    refine (if_pos due).trans ?_
    exact congrArg _ (State.startPulse_of_site (s := { s.advance dt with gate.queue := q }) site p)
  · have pulse' : (s.advance dt).gate.pulse = some p := pulse
    simp only [exec, execCameraPulseEnd, pulse']
    rw [apply_ite Host.Outcome.next]
    rfl
  · have pulse' : (s.advance dt).gate.exitPulse = some t := pulse
    simp only [exec, execExitPulseEnd, pulse']
    rw [apply_ite Host.Outcome.next]
    rfl

end Sys2Proof.Machine

/-!
PROOFS. Chapter 9, first part: the steps of the close operation.
-/

namespace Sys2Proof.Machine

/-! ## What grouping and judgement leave alone -/

/-- What the close operation reads after grouping, judgement and outlier tests is as it was before them. -/
structure State.Tended (s t : State) : Prop where
  axles : t.axles = { s.axles with records := t.axles.records }
  bearings : t.axles.records.map (·.bearing) = s.axles.records.map (·.bearing)
  notices : t.group.notices = s.group.notices
  t1 : t.alertEntry .t1 = s.alertEntry .t1

theorem State.Tended.refl (s : State) : s.Tended s := ⟨rfl, rfl, rfl, rfl⟩

theorem State.Tended.trans {s t u : State} (first : s.Tended t) (second : t.Tended u) : s.Tended u where
  axles := by rw [second.axles, first.axles]
  bearings := second.bearings.trans first.bearings
  notices := second.notices.trans first.notices
  t1 := second.t1.trans first.t1

/-- Updates of the Vehicle List, the session and the queues keep it. -/
theorem State.tended_with (s : State) (session : SessionCtl) (vehicles : List Vehicle) (cursor : Nat) (port : StationPort) :
    s.Tended { s with
      session := session, group.vehicles := vehicles, group.cursor := cursor, port := port } :=
  ⟨rfl, rfl, rfl, rfl⟩

theorem State.mapRecords_tended (s : State) {f : AxleRecord → AxleRecord} (keeps : ∀ r, (f r).bearing = r.bearing) :
    s.Tended { s with axles.records := s.axles.records.map f } :=
  ⟨rfl, by simp [keeps], rfl, rfl⟩

theorem State.raise_tended (s : State) {k : AlertKind} (other : k ≠ .t1) (src : Source) : s.Tended (s.raise k src) where
  axles := congrArg State.axles (s.raise_changes k src)
  bearings := by
    by_cases named : ∃ n, src = .axle s.axles.tableSeq n
    · obtain ⟨n, named⟩ := named
      rw [State.raise_records_of_named k named, List.map_map]
      refine List.map_congr_left fun r _ => ?_
      dsimp only [Function.comp]
      split <;> rfl
    · rw [State.raise_records_of_unnamed k fun n is => named ⟨n, is⟩]
  notices := by simp
  t1 := State.raise_entry_ne s src (Ne.symm other)

theorem State.raiseAll_tended (src : Source) {l : List AlertKind} (none : .t1 ∉ l) (s : State) :
    s.Tended (s.raiseAll src l) := by
  induction l generalizing s with
  | nil => exact .refl s
  | cons k l ih =>
    obtain ⟨other, rest⟩ : .t1 ≠ k ∧ .t1 ∉ l := by simpa using none
    exact (s.raise_tended (Ne.symm other) src).trans (ih rest _)

theorem State.raiseAxles_tended (th : Threshold) (bands : SpeedBands) (l : List AxleRecord) (s : State) :
    s.Tended (s.raiseAxles th bands l) := by
  induction l generalizing s with
  | nil => exact .refl s
  | cons r l ih =>
    have none : .t1 ∉ axleRaises th bands r := fun mem => by simpa using (axleRaises_sublist th bands r).subset mem
    exact (s.raiseAll_tended _ none).trans (ih _)

theorem State.offerResult_tended (s : State) (f : OutFrame) : s.Tended (s.offerResult f) := by
  unfold State.offerResult
  repeat' split
  all_goals exact s.tended_with ..

theorem State.judge_tended (s : State) (v : Vehicle) : s.Tended (s.judge v) := by
  have raised : s.Tended (s.raiseJudged v) := by
    unfold State.raiseJudged
    cases s.threshold? v.set
    · exact .refl s
    · exact s.raiseAxles_tended ..
  rw [State.judge_eq]
  exact (raised.trans (State.tended_with ..)).trans (State.offerResult_tended ..)

theorem State.judgeIfReady_tended (s : State) (i : Nat) : s.Tended (s.judgeIfReady i) := by
  unfold State.judgeIfReady
  split
  · split
    · exact s.judge_tended _
    · exact .refl s
  · exact .refl s

theorem State.formVehicle_tended (s : State) (final : Bool) (cls pattern : Option Nat) (count set : Nat) :
    s.Tended (s.formVehicle final cls pattern count set) := by
  have joined (vehicles : List Vehicle) (cursor : Nat) (f : AxleRecord → AxleRecord) (keeps : ∀ r, (f r).bearing = r.bearing) :
      s.Tended { s with
        group.vehicles := vehicles, group.cursor := cursor, axles.records := s.axles.records.map f } :=
    (s.mapRecords_tended keeps).trans (State.tended_with _ s.session vehicles cursor s.port)
  have told (r : AxleRecord) (c : Prop) [Decidable c] (v : Option Nat) :
      (if c then { r with vehicle := v } else r).bearing = r.bearing := by
    split <;> rfl
  unfold State.formVehicle
  cases cls with
  | none =>
    exact (((joined _ _ _ fun r => told r _ _).trans (State.raise_tended _ (by decide) _)).trans
      (State.tended_with ..)).trans (State.judgeIfReady_tended ..)
  | some c => exact (joined _ _ _ fun r => told r _ _).trans (State.judgeIfReady_tended ..)

theorem State.segment_tended (final : Bool) (n : Nat) (s : State) : s.Tended (State.segment final n s) := by
  induction n generalizing s with
  | zero => exact .refl s
  | succ n ih =>
    unfold State.segment
    split
    · exact .refl s
    · split
      · exact .refl s
      · exact (s.formVehicle_tended ..).trans (ih _)

/-- The judgement of every vehicle still FORMED, as a fold over the indices (R129). -/
theorem State.judgeRest_eq_foldl (l : List Nat) (s : State) : State.judgeRest l s =
    l.foldl (fun x j => match x.vehicle? j with
      | some v => if v.judged then x else x.judge v
      | none => x) s := by
  induction l generalizing s with
  | nil => rfl
  | cons i l ih =>
    rw [List.foldl_cons, ← ih]
    simp only [State.judgeRest]
    cases s.vehicle? i <;> rfl

theorem State.judgeRest_tended (l : List Nat) (s : State) : s.Tended (State.judgeRest l s) := by
  induction l generalizing s with
  | nil => exact .refl s
  | cons i l ih =>
    unfold State.judgeRest
    split
    · split
      · exact ih s
      · exact (s.judge_tended _).trans (ih _)
    · exact ih s

theorem State.testOutlier_tended (mean : Int) (rail : Rail) (r : AxleRecord) (s : State) :
    s.Tended (s.testOutlier mean rail r) := by
  cases outlier : s.isOutlier mean rail r with
  | false => rw [State.testOutlier_of_not outlier]; exact .refl s
  | true =>
    rw [State.testOutlier_of_outlier outlier]
    exact (s.raise_tended (by decide) _).trans ⟨rfl, rfl, by simp, rfl⟩

theorem State.testOutliers_tended (mean : Int) (rail : Rail) (l : List AxleRecord) (s : State) :
    s.Tended (State.testOutliers mean rail l s) := by
  induction l generalizing s with
  | nil => exact .refl s
  | cons r l ih => exact (s.testOutlier_tended mean rail r).trans (ih _)

theorem State.outlierRail_tended (s : State) (rail : Rail) : s.Tended (s.outlierRail rail) := by
  unfold State.outlierRail
  dsimp only
  split
  · exact s.tended_with ..
  · exact s.testOutliers_tended ..

/-! ## Every vehicle is judged (R129) -/

theorem State.judge_indices (s : State) (v : Vehicle) :
    (s.judge v).group.vehicles.map (·.index) = s.group.vehicles.map (·.index) := by
  rw [State.judge_group]
  simp only [List.map_map]
  refine List.map_congr_left fun x _ => ?_
  dsimp only [Function.comp]
  split
  · next same => exact same.symm
  · rfl

/-- A judgement judges its vehicle and unjudges none. -/
theorem State.judge_mem {s : State} {v w : Vehicle} (mem : w ∈ (s.judge v).group.vehicles) :
    w.judged = true ∧ w.index = v.index ∨ w ∈ s.group.vehicles ∧ w.index ≠ v.index := by
  rw [State.judge_group] at mem
  obtain ⟨x, inside, rfl⟩ := List.mem_map.1 mem
  by_cases same : x.index = v.index
  · exact .inl (by rw [if_pos same]; exact ⟨rfl, rfl⟩)
  · exact .inr (by rw [if_neg same]; exact ⟨inside, same⟩)

theorem State.judgeRest_judged {l : List Nat} {s : State} (distinct : (s.group.vehicles.map (·.index)).Nodup)
    (rest : ∀ v ∈ s.group.vehicles, v.judged = true ∨ v.index ∈ l) :
    ∀ v ∈ (State.judgeRest l s).group.vehicles, v.judged = true := by
  induction l generalizing s with
  | nil => exact fun v mem => (rest v mem).resolve_right List.not_mem_nil
  | cons i l ih =>
    simp only [State.judgeRest]
    cases found : s.vehicle? i with
    | none =>
      refine ih distinct fun v mem => (rest v mem).imp_right fun listed => (List.mem_cons.1 listed).resolve_left fun here => ?_
      exact List.find?_eq_none.1 found v mem (by simpa using here)
    | some v =>
      have index := State.vehicle?_index found
      dsimp only
      split
      · next done =>
        refine ih distinct fun w mem => ?_
        rcases rest w mem with judged | listed
        · exact .inl judged
        · rcases List.mem_cons.1 listed with here | later
          · rw [List.inj_on_of_nodup_map distinct mem (State.vehicle?_mem found) (here.trans index.symm)]
            exact .inl done
          · exact .inr later
      · refine ih (by rw [State.judge_indices]; exact distinct) fun w mem => ?_
        rcases State.judge_mem mem with ⟨judged, -⟩ | ⟨inside, other⟩
        · exact .inl judged
        · exact (rest w inside).imp_right fun listed => (List.mem_cons.1 listed).resolve_left fun here =>
            other (here.trans index.symm)

/-! ## The outlier tests of the close operation (R116) -/

/-- The rises of a rail over the Axle Table. -/
def State.rises (s : State) (rail : Rail) : List Int := s.axles.records.filterMap fun r => (r.bearing.get rail).rise.value?

theorem State.Tended.rises {s t : State} (tended : s.Tended t) (rail : Rail) : t.rises rail = s.rises rail := by
  have through (u : State) : u.rises rail =
      (u.axles.records.map (·.bearing)).filterMap fun b => (b.get rail).rise.value? := by
    rw [List.filterMap_map]
    rfl
  rw [through, through, tended.bearings]

theorem State.outlierRail_session (s : State) (rail : Rail) : (s.outlierRail rail).session =
    if (s.rises rail).length < 8 then { s.session with
      record.outlierNotTested := s.session.record.outlierNotTested.set rail true } else s.session := by
  unfold State.outlierRail
  dsimp only
  rw [apply_ite State.session]
  refine if_congr Iff.rfl rfl ?_
  simp

theorem State.outlierRail_group (s : State) (rail : Rail) :
    (∀ v ∈ s.group.vehicles, v.judged = true) → ∀ v ∈ (s.outlierRail rail).group.vehicles, v.judged = true := by
  intro judged v mem
  unfold State.outlierRail at mem
  dsimp only at mem
  split at mem
  · exact judged v mem
  · rw [State.testOutliers_vehicles] at mem
    obtain ⟨x, inside, rfl⟩ := List.mem_map.1 mem
    have done := judged x inside
    split
    · exact done
    · exact done

theorem State.closeOutliers_session (s : State) : s.closeOutliers.session = { s.session with
    record.outlierNotTested :=
      ⟨s.session.record.outlierNotTested.r1 || decide ((s.rises .r1).length < 8),
        s.session.record.outlierNotTested.r2 || decide ((s.rises .r2).length < 8)⟩ } := by
  have second := (s.outlierRail_tended .r1).rises .r2
  rw [State.closeOutliers, State.outlierRail_session, second, State.outlierRail_session]
  by_cases few1 : (s.rises .r1).length < 8 <;> by_cases few2 : (s.rises .r2).length < 8 <;>
    simp [few1, few2, PerRail.set]

/-! ## The slot chosen (R155) -/

theorem ReportUnit.inReadout_eq_false_iff (r : ReportUnit) (i : Fin 4) :
    r.inReadout i = false ↔ ∀ e, r.engine = some e → e.slot ≠ i := by
  unfold ReportUnit.inReadout
  cases r.engine <;> simp

theorem ReportUnit.choose_of_empty {r : ReportUnit} {i : Fin 4} (empty : (r.slots[i]).state = .empty)
    (lowest : ∀ j : Fin 4, j < i → (r.slots[j]).state ≠ .empty) : r.choose = some i := by
  have order : allSlots = List.finRange 4 := by decide
  have found : allSlots.find? (fun i => decide ((r.slots[i]).state = .empty)) = some i := by
    rw [order, List.find?_eq_some_iff_getElem]
    refine ⟨decide_eq_true empty, i.val, by simp, by simp, fun j before => ?_⟩
    simpa using lowest ⟨j, by omega⟩ before
  unfold ReportUnit.choose
  rw [found]

/-- The choice without an EMPTY slot. -/
theorem ReportUnit.choose_of_none_empty {r : ReportUnit} (none : ∀ j : Fin 4, (r.slots[j]).state ≠ .empty) :
    r.choose = (r.oldest .released).or (r.oldest .held) := by
  have missed : allSlots.find? (fun i => decide ((r.slots[i]).state = .empty)) = .none :=
    List.find?_eq_none.2 fun i _ => by simpa [-Fin.getElem_fin] using none i
  unfold ReportUnit.choose
  rw [missed]
  dsimp only
  cases r.oldest .released <;> rfl

theorem ReportUnit.oldest_eq {r : ReportUnit} {st : SlotState} {i : Fin 4} {l1 l2 : List (Fin 4)} (order : r.order = l1 ++ i :: l2)
    (here : (r.slots[i]).state = st ∧ r.inReadout i = false)
    (before : ∀ j ∈ l1, ¬ ((r.slots[j]).state = st ∧ r.inReadout j = false)) : r.oldest st = some i := by
  have skipped : l1.find? (fun j => decide ((r.slots[j]).state = st) && !r.inReadout j) = none :=
    List.find?_eq_none.2 fun j mem => by simpa [-Fin.getElem_fin] using before j mem
  rw [ReportUnit.oldest, order, List.find?_append, skipped]
  simp [-Fin.getElem_fin, here]

theorem ReportUnit.oldest_eq_none {r : ReportUnit} {st : SlotState}
    (nowhere : ∀ j ∈ r.order, ¬ ((r.slots[j]).state = st ∧ r.inReadout j = false)) : r.oldest st = none :=
  List.find?_eq_none.2 fun j mem => by simpa [-Fin.getElem_fin] using nowhere j mem

theorem State.counts_congr {s t : State} (head : t.session.entryHead = s.session.entryHead)
    (a : t.heads.a.count = s.heads.a.count) (b : t.heads.b.count = s.heads.b.count) :
    t.entryCount = s.entryCount ∧ t.exitCount = s.exitCount := by
  have heads (h : Head) : (t.head h).count = (s.head h).count := by cases h <;> assumption
  unfold State.entryCount State.exitCount
  rw [head]
  cases s.session.entryHead with
  | none => exact ⟨rfl, rfl⟩
  | some h => exact ⟨heads h, heads (otherHead h)⟩

/-- Step 4 keeps all but the mark, the alert unit, the ALERT class and T1's entry (R33). -/
theorem State.closeCounts_eq (s : State) : s.closeCounts = if s.entryCount = s.exitCount then s else
    { s with
      session.record.countMismatch := true
      alert := (({ s with session.record.countMismatch := true } : State).raise .t1 (.train s.session.seq)).alert
      port.alertQ := (({ s with session.record.countMismatch := true } : State).raise .t1 (.train s.session.seq)).port.alertQ } := by
  unfold State.closeCounts
  split
  · rfl
  · exact State.raise_changes_of_unnamed .t1 nofun

theorem State.closeCounts_session (s : State) : s.closeCounts.session = { s.session with
    record.countMismatch := s.session.record.countMismatch || decide (s.entryCount ≠ s.exitCount) } := by
  rw [State.closeCounts_eq]
  split
  · next same => simp [same]
  · next other => simp [other]

theorem State.closeCounts_axles (s : State) : s.closeCounts.axles = s.axles := by
  rw [State.closeCounts_eq]
  split <;> rfl

theorem State.closeCounts_t1 (s : State) : s.closeCounts.alertEntry .t1 = if s.entryCount = s.exitCount then s.alertEntry .t1
    else (s.alertEntry .t1).raised (.train s.session.seq) := by
  unfold State.closeCounts
  split
  · rfl
  · exact State.raise_entry_self _ _ _

/-- What steps 2 and 3 of the close operation leave of what the later steps read (R33, R116, R129). -/
structure State.Tried (s t : State) : Prop where
  tended : s.Tended t
  clock : t.clock = s.clock
  heads : t.heads = s.heads
  thermal : t.thermal = s.thermal
  report : t.report = s.report
  tables : t.tables = s.tables
  session : t.session = { s.session with
    record.outlierNotTested := ⟨s.session.record.outlierNotTested.r1 || decide ((s.rises .r1).length < 8),
      s.session.record.outlierNotTested.r2 || decide ((s.rises .r2).length < 8)⟩ }
  records : t.axles.records.length = s.axles.records.length
  judged : ∀ v ∈ t.group.vehicles, v.judged = true

theorem State.outlierRail_records_length (s : State) (rail : Rail) :
    (s.outlierRail rail).axles.records.length = s.axles.records.length := by
  simpa using congrArg List.length (s.outlierRail_tended rail).bearings

theorem State.segment_numbered (final : Bool) (n : Nat) {s : State} (numbered : s.Numbered) :
    (State.segment final n s).Numbered := by
  induction n generalizing s with
  | zero => exact numbered
  | succ n ih =>
    unfold State.segment
    split
    · exact numbered
    · split
      · exact numbered
      · exact ih (State.formVehicle_numbered numbered ..)

theorem State.closeOutliers_tried {s : State} (numbered : s.Numbered) : s.Tried s.closeVehicles.closeOutliers := by
  have grouped : s.Tended s.closeVehicles := (s.segment_tended true _).trans (State.judgeRest_tended _ _)
  have tended : s.Tended s.closeVehicles.closeOutliers :=
    grouped.trans ((State.outlierRail_tended _ .r1).trans (State.outlierRail_tended _ .r2))
  refine ⟨tended, by simp, by simp, by simp, by simp, by simp, ?_, by simpa using congrArg List.length tended.bearings, ?_⟩
  · rw [State.closeOutliers_session, grouped.rises, grouped.rises]
    simp only [State.closeVehicles_frame]
  · have run : (s.runSegmentation true).Numbered := State.segment_numbered true _ numbered
    refine State.outlierRail_group _ _ (State.outlierRail_group _ _ ?_)
    exact State.judgeRest_judged run.nodup fun v mem => .inr (List.mem_map_of_mem mem)

theorem State.beginCopy_of_chosen {s : State} {r : ReportUnit} {i : Fin 4} (report : s.report = r) (chosen : r.choose = some i) :
    s.beginCopy = { s with
      report.slots := r.slots.set i { r.slots[i] with writing := true }
      report.copy := some (i, ⟨s.formHeader, s.axles.records, s.group.vehicles⟩) } := by
  subst report
  simp only [State.beginCopy, chosen]

/-- Settles O51: the chain of the close steps, each by what it leaves of the state the next one reads. -/
theorem closeMeasurementsDone : Obligations.CloseMeasurementsDone := by
  refine ⟨?_, fun r i => ?_⟩
  · intro s dt i closing copy quiet chosen numbered run judged tested
    obtain ⟨u, begun⟩ : ∃ u : State, u = { s.advance dt with group.notices := 0 } := ⟨_, rfl⟩
    have isTested : tested = u.closeVehicles.closeOutliers := by
      rw [begun]
      exact congrArg (fun y => (y.outlierRail .r1).outlierRail .r2) (State.judgeRest_eq_foldl _ run).symm
    have tried : u.Tried tested := isTested ▸ State.closeOutliers_tried (by rw [begun]; exact numbered)
    have row : exec (.closeMeasurementsDone dt) s = .next tested.closeCounts.beginCopy := by
      have done : (s.advance dt).measurementsDone = true := List.all_eq_true.2 fun r mem => by simpa using quiet r mem
      rw [isTested, begun]
      exact if_pos ⟨closing, copy, done⟩
    clear_value tested
    clear isTested
    obtain ⟨tended, clock, heads, thermal, report, tables, session, records, judgedAll⟩ := tried
    have rises (rail : Rail) : u.rises rail = s.rises rail := by rw [begun]; rfl
    rw [rises, rises, show u.session = s.session by rw [begun]; rfl] at session
    obtain ⟨entries, exits⟩ := State.counts_congr (s := s) (t := tested) (by rw [session]) (by rw [heads, begun]; rfl)
      (by rw [heads, begun]; rfl)
    intro counted header
    have isCounted : counted = tested.closeCounts := by
      have seq : tested.session.seq = s.session.seq := by rw [session]
      rw [State.closeCounts, entries, exits, seq]
    have axles : counted.axles = { s.axles with records := tested.axles.records } := by
      rw [isCounted, State.closeCounts_axles, tended.axles, begun]
      rfl
    have final : counted.session = { tested.session with
        record.countMismatch := tested.session.record.countMismatch || decide (s.entryCount ≠ s.exitCount) } := by
      rw [isCounted, State.closeCounts_session, entries, exits]
    have t1 : counted.alertEntry .t1 = if s.entryCount = s.exitCount then s.alertEntry .t1
        else (s.alertEntry .t1).raised (.train s.session.seq) := by
      have seq : tested.session.seq = s.session.seq := by rw [session]
      rw [isCounted, State.closeCounts_t1, entries, exits, tended.t1, seq, begun]
      rfl
    rw [← isCounted] at row
    have frame := tested.closeCounts_frame
    rw [← isCounted, clock, heads, thermal, report, tables] at frame
    obtain ⟨clock', heads', -, -, -, thermal', group, -, report', tables', -, -⟩ := frame
    clear_value counted
    clear isCounted
    rw [begun] at clock' heads' thermal' report' tables'
    obtain ⟨entries', exits'⟩ := State.counts_congr (s := s) (t := counted) (by rw [final, session]) (by rw [heads']; rfl)
      (by rw [heads']; rfl)
    have size : counted.axles.records.length = s.axles.records.length := by
      rw [axles, records, begun]
      rfl
    have headed : counted.formHeader = header := by
      have site : State.site counted = s.site := by rw [State.site, tables']; rfl
      have id : counted.constant (·.siteId) 0 = s.site.elim 0 (·.siteId) := by
        rw [State.constant, site]
        cases s.site <;> rfl
      simp only [State.formHeader, id, entries', exits', size, thermal']
      rw [axles]
      rfl
    have copied := State.beginCopy_of_chosen (s := counted) (i := i) report' chosen
    refine ⟨_, row, by rw [copied, headed]; rfl, fun e before => ⟨fun differ => ?_, fun same => ?_⟩, fun rail => ?_, ?_, ?_, ?_,
      ?_⟩
    · rw [copied]
      exact t1.trans ((if_neg differ).trans (by rw [← before]; rfl))
    · rw [copied]
      exact t1.trans ((if_pos same).trans before.symm)
    · have shown : (s.axles.records.filterMap fun r => match (r.bearing.get rail).rise with
          | .present x _ => some x
          | _ => none) = s.rises rail := List.filterMap_congr fun r _ => by cases (r.bearing.get rail).rise <;> rfl
      refine Eq.trans ?_ (congrArg (fun l : List Int =>
        s.session.record.outlierNotTested.get rail || decide (l.length < 8)) shown.symm)
      rw [copied]
      refine (congrArg (fun c : SessionCtl => c.record.outlierNotTested.get rail) final).trans ?_
      rw [session]
      cases rail <;> rfl
    · rw [copied]
      exact group ▸ judgedAll
    · rw [copied]
      refine (congrArg (fun c : SessionCtl => c.record.countMismatch) final).trans ?_
      rw [session]
    · rw [copied]
      exact congrArg (fun r : ReportUnit => { r with
        slots := s.report.slots.set i { s.report.slots[i] with writing := true }
        copy := some (i, ⟨counted.formHeader, counted.axles.records, counted.group.vehicles⟩) }) report'
    · rw [copied]
      refine ⟨entries', exits', rfl, rfl, ?_, ?_, clock', tables'⟩
      · exact (congrArg Grouping.notices group).trans (tended.notices.trans (by rw [begun]))
      · refine (congrArg SessionCtl.state final).trans ?_
        rw [session]
        exact closing
  · intro free
    have inOut (st : SlotState) (j : Fin 4) : free st j ↔ (r.slots[j]).state = st ∧ r.inReadout j = false := by
      rw [ReportUnit.inReadout_eq_false_iff]
    refine ⟨fun empty lowest => ?_, fun l1 l2 order none => ⟨fun here before => ?_, fun here before later => ?_⟩⟩
    · exact ReportUnit.choose_of_empty empty lowest
    · simp only [inOut] at here before
      rw [ReportUnit.choose_of_none_empty none, ReportUnit.oldest_eq order here before]
      rfl
    · simp only [inOut] at here before later
      rw [ReportUnit.choose_of_none_empty none, ReportUnit.oldest_eq_none later, ReportUnit.oldest_eq order here before]
      rfl

end Sys2Proof.Machine

/-!
PROOFS. Chapter 9: the readout engine, the directory and RELEASE REPORT.
-/

namespace Sys2Proof.Machine

/-! ## The checks of READ REPORT (Table 9.3) -/

theorem u8_ofNat_fin (i : Fin 4) (l : List Byte) : u8 (BitVec.ofNat 8 i.val :: l) 0 = i.val :=
  (BitVec.toNat_ofNat ..).trans (Nat.mod_eq_of_lt (by omega))

theorem sectionOf_code (part : Section) (x : Byte) (l : List Byte) :
    sectionOf (u8 (x :: BitVec.ofNat 8 part.code :: l) 1) = some part := by
  cases part <;> rfl

theorem sectionOf_of_le {n : Nat} (known : n ≤ 2) : ∃ part, sectionOf n = some part := by
  match n, known with
  | 0, _ => exact ⟨_, rfl⟩
  | 1, _ => exact ⟨_, rfl⟩
  | 2, _ => exact ⟨_, rfl⟩

theorem sectionOf_of_gt {n : Nat} (unknown : 2 < n) : sectionOf n = none := by
  match n, unknown with
  | _ + 3, _ => rfl

section CheckRead

variable {s : State} {tag : Byte} {a : List Byte}

theorem State.checkRead_of_slot_gt (slot : 3 < u8 a 0) : s.checkRead tag a = .range 0 :=
  dif_neg (by omega)

theorem State.checkRead_of_section_gt (slot : u8 a 0 ≤ 3) (part : 2 < u8 a 1) : s.checkRead tag a = .range 1 := by
  rw [State.checkRead, dif_pos (by omega), sectionOf_of_gt part]

variable {i : Fin 4} {part : Section} (slot : u8 a 0 = i.val) (sect : sectionOf (u8 a 1) = some part)
include slot sect

theorem State.checkRead_of_bad_count (count : u16 a 4 = 0 ∨ 1024 < u16 a 4) : s.checkRead tag a = .range 3 := by
  rw [State.checkRead, dif_pos (by omega), sect]
  exact if_pos count

variable (least : 1 ≤ u16 a 4) (most : u16 a 4 ≤ 1024)
include least most

theorem State.checkRead_of_busy (busy : s.report.engine ≠ none ∨ (s.report.slots[i]).writing = true) :
    s.checkRead tag a = .refuse .busy := by
  have inside : u8 a 0 < 4 := by omega
  obtain rfl : i = ⟨u8 a 0, inside⟩ := Fin.ext slot.symm
  rw [State.checkRead, dif_pos inside, sect]
  refine (if_neg (by omega)).trans ?_
  by_cases running : s.report.engine.isSome = true
  · exact if_pos running
  · refine (if_neg running).trans (if_pos ?_)
    simpa [Option.not_isSome_iff_eq_none.1 running] using busy

variable (idle : s.report.engine = none) (whole : (s.report.slots[i]).writing = false)
include idle whole

theorem State.checkRead_of_empty (empty : (s.report.slots[i]).state = .empty) :
    s.checkRead tag a = .refuse .empty := by
  have inside : u8 a 0 < 4 := by omega
  obtain rfl : i = ⟨u8 a 0, inside⟩ := Fin.ext slot.symm
  rw [State.checkRead, dif_pos inside, sect]
  refine (if_neg (by omega)).trans ?_
  refine (if_neg (by simp [idle])).trans ?_
  refine (if_neg (by simpa using whole)).trans ?_
  have empty' : (s.report.slots[u8 a 0]).state = .empty := empty
  simp only [empty']

variable {rep : Report} (kept : (s.report.slots[i]).state ≠ .empty) (here : (s.report.slots[i]).report = some rep)
include kept here

/-- A report that can be read: only the first index is left to check. -/
theorem State.checkRead_of_report : s.checkRead tag a =
    if u16 a 2 = 0 ∨ (rep.records part).length < u16 a 2 then .range 2
    else .accept { slot := i, part := part, tag := tag, next := u16 a 2
                   granted := min (u16 a 4) ((rep.records part).length - u16 a 2 + 1)
                   foreign := s.port.reportQ.length } := by
  have inside : u8 a 0 < 4 := by omega
  obtain rfl : i = ⟨u8 a 0, inside⟩ := Fin.ext slot.symm
  rw [State.checkRead, dif_pos inside, sect]
  refine (if_neg (by omega)).trans ?_
  refine (if_neg (by simp [idle])).trans ?_
  refine (if_neg (by simpa using whole)).trans ?_
  have here' : (s.report.slots[u8 a 0]).report = some rep := here
  have kept' : (s.report.slots[u8 a 0]).state ≠ .empty := kept
  cases state : (s.report.slots[u8 a 0]).state with
  | empty => exact absurd state kept'
  | held => simp only [here']
  | released => simp only [here']

end CheckRead

theorem State.serveReadReport_of_range {s : State} {c : Command} {i : Nat} (check : s.checkRead c.tag c.args = .range i) :
    State.serveReadReport c s = s.answerRange c i := by
  simp only [State.serveReadReport, check]

theorem State.serveReadReport_of_refuse {s : State} {c : Command} {st : Status}
    (check : s.checkRead c.tag c.args = .refuse st) : State.serveReadReport c s = s.answer c st [] := by
  simp only [State.serveReadReport, check]

theorem State.serveReadReport_of_accept {s : State} {c : Command} {e : Readout}
    (check : s.checkRead c.tag c.args = .accept e) : State.serveReadReport c s = { s with report.engine := some e } := by
  simp only [State.serveReadReport, check]

theorem u16_at_two (x y lo hi : Byte) (l : List Byte) :
    u16 (x :: y :: lo :: hi :: l) 2 = lo.toNat + 256 * hi.toNat := u16_cons lo hi l

theorem u16_at_four (x y z w lo hi : Byte) : u16 [x, y, z, w, lo, hi] 4 = lo.toNat + 256 * hi.toNat := u16_cons lo hi []

/-! ## The readout engine (R159) -/

theorem execReportData_of_running {s : State} {dt : Time} {e : Readout} {rep : Report} (running : s.report.engine = some e)
    (here : (s.report.slots[e.slot]).report = some rep) : exec (.reportData dt) s =
      if s.port.reportQ.length < 8 then .next ((s.advance dt).placeReport e rep) else .next (s.advance dt) := by
  have running' : (s.advance dt).report.engine = some e := running
  have here' : ((s.advance dt).report.slots[e.slot]).report = some rep := here
  simp only [exec, execReportData, running', here']
  rfl

/-! ## The directory (R157) -/

/-- The bytes of a slot in the directory; `shown` is the report it shows. -/
theorem ReportUnit.slotBytes_eq (r : ReportUnit) (i : Fin 4) {shown : Option Report}
    (view : shown = if (r.slots[i]).state = .empty ∨ (r.slots[i]).writing = true then none else (r.slots[i]).report) :
    r.slotBytes i = le1 (r.slots[i]).state.code ++ yes (r.slots[i]).writing ++
      optional (fun p : Report => leHalf p.header.record.seq) shown ++
      optional (fun cl : Closure => le1 cl.code) (shown.bind fun p => p.header.record.closure) ++
      optional (fun p : Report => le2 p.header.axleCount) shown ++
      optional (fun p : Report => le2 p.header.vehicleCount) shown ++
      optional le2 (r.rank i) ++ yes (r.inReadout i) := by
  subst view
  rfl

theorem ReportUnit.inReadout_eq_any (r : ReportUnit) (i : Fin 4) :
    r.inReadout i = r.engine.any fun e => decide (e.slot = i) := by
  unfold ReportUnit.inReadout
  cases r.engine <;> rfl

theorem yes_eq (b : Bool) : yes b = [if b then 1 else 0] := by cases b <;> rfl

/-- Settles O53: READ REPORT by the lines of Table 9.3, the engine by what its frame leaves, the directory slot by slot. -/
theorem reportsAreRead : Obligations.ReportsAreRead := by
  intro s dt tag rest u counts
  refine ⟨?_, ?_, ?_, ?_, ?_⟩
  · intro i part f0 f1 c0 c1 room front first count least most
    have row : exec (.readReport dt) s = .next (State.serveReadReport
        ⟨tag, [0x0F, BitVec.ofNat 8 i.val, BitVec.ofNat 8 part.code, f0, f1, c0, c1]⟩
        { s.advance dt with port.commands := rest }) :=
      congrArg _ (State.serve_advance dt _ front room rfl)
    rw [row]
    let a : List Byte := [BitVec.ofNat 8 i.val, BitVec.ofNat 8 part.code, f0, f1, c0, c1]
    let t : State := { s.advance dt with port.commands := rest }
    have slot : u8 a 0 = i.val := u8_ofNat_fin i _
    have sect : sectionOf (u8 a 1) = some part := sectionOf_code part _ _
    have firstArg : u16 a 2 = first := u16_at_two ..
    have countArg : u16 a 4 = count := u16_at_four ..
    have atLeast : 1 ≤ u16 a 4 := countArg ▸ least
    have atMost : u16 a 4 ≤ 1024 := countArg ▸ most
    refine ⟨fun busy => ?_, fun idle whole => ⟨fun empty => ?_, fun rep kept here low high => ?_,
      fun rep kept here bad => ?_⟩⟩
    · have check : t.checkRead tag a = .refuse .busy := State.checkRead_of_busy slot sect atLeast atMost busy
      exact congrArg _ (State.serveReadReport_of_refuse (c := ⟨tag, 0x0F :: a⟩) check)
    · have check : t.checkRead tag a = .refuse .empty :=
        State.checkRead_of_empty slot sect atLeast atMost idle whole empty
      exact congrArg _ (State.serveReadReport_of_refuse (c := ⟨tag, 0x0F :: a⟩) check)
    · have check := State.checkRead_of_report (s := t) (tag := tag) slot sect atLeast atMost idle whole kept here
      rw [firstArg, countArg, if_neg (by omega)] at check
      exact congrArg _ (State.serveReadReport_of_accept (c := ⟨tag, 0x0F :: a⟩) check)
    · have check := State.checkRead_of_report (s := t) (tag := tag) slot sect atLeast atMost idle whole kept here
      rw [firstArg, if_pos bad] at check
      exact congrArg _ (State.serveReadReport_of_range (c := ⟨tag, 0x0F :: a⟩) check)
  · intro slot part f0 f1 c0 c1 room front count
    have row : exec (.readReport dt) s = .next (State.serveReadReport ⟨tag, [0x0F, slot, part, f0, f1, c0, c1]⟩
        { s.advance dt with port.commands := rest }) :=
      congrArg _ (State.serve_advance dt _ front room rfl)
    rw [row]
    let a : List Byte := [slot, part, f0, f1, c0, c1]
    let t : State := { s.advance dt with port.commands := rest }
    refine ⟨fun high => ?_, fun low high => ?_, fun low known bad => ?_⟩
    · have check : t.checkRead tag a = .range 0 := State.checkRead_of_slot_gt high
      exact congrArg _ (State.serveReadReport_of_range (c := ⟨tag, 0x0F :: a⟩) check)
    · have check : t.checkRead tag a = .range 1 := State.checkRead_of_section_gt low high
      exact congrArg _ (State.serveReadReport_of_range (c := ⟨tag, 0x0F :: a⟩) check)
    · obtain ⟨sect, named⟩ := sectionOf_of_le known
      have countArg : u16 a 4 = count := u16_at_four ..
      have check : t.checkRead tag a = .range 3 :=
        State.checkRead_of_bad_count (i := ⟨slot.toNat, by omega⟩) rfl named (countArg ▸ bad)
      exact congrArg _ (State.serveReadReport_of_range (c := ⟨tag, 0x0F :: a⟩) check)
  · intro e rep running here n q
    rw [execReportData_of_running running here]
    refine ⟨fun full => if_neg (by omega), fun space more => ?_, fun space done => ?_⟩
    · rw [if_pos space]
      exact congrArg _ (if_neg (Nat.not_le.2 more))
    · rw [if_pos space]
      exact congrArg _ (if_pos done)
  · intro front room
    have row : exec (.abortReadout dt) s = .next (State.serveAbort ⟨tag, [0x10]⟩
        { s.advance dt with port.commands := rest }) :=
      congrArg _ (State.serve_advance dt _ front room rfl)
    rw [row]
    refine ⟨fun idle => ?_, fun e running => ?_⟩
    · have idle' : (s.advance dt).report.engine = none := idle
      simp only [State.serveAbort, idle']
      rfl
    · have running' : (s.advance dt).report.engine = some e := running
      simp only [State.serveAbort, running']
      rfl
  · intro front room number flag item slot
    have row : exec (.reportDirectory dt) s = .next (State.answer { s.advance dt with port.commands := rest }
        ⟨tag, [0x0E]⟩ .ok s.report.directory) :=
      congrArg _ (State.serve_advance dt _ front room rfl)
    have bytes (i : Fin 4) : s.report.slotBytes i = slot i := by
      have item_optional {α : Type} (f : α → List Byte) (o : Option α) : optional f o = item (o.map f) := by
        cases o <;> rfl
      have state : le1 (s.report.slots[i]).state.code =
          match (s.report.slots[i]).state with | .empty => [0] | .held => [1] | .released => [2] := by
        cases (s.report.slots[i]).state <;> rfl
      have closure : (fun cl : Closure => le1 cl.code) = fun c => match c with
          | .normal => [0] | .withdrawn => [1] | .abandoned => [2] | .forced => [3] := by
        funext cl
        cases cl <;> rfl
      have rank : (s.report.rank i).map le2 =
          if i ∈ s.report.order then some (number (s.report.order.idxOf i + 1)) else none :=
        (apply_ite ..).trans rfl
      rw [ReportUnit.slotBytes_eq s.report i rfl]
      simp only [item_optional, state, closure, rank, yes_eq, ReportUnit.inReadout_eq_any]
      rfl
    have four : s.report.directory = slot 0 ++ slot 1 ++ slot 2 ++ slot 3 ++ number s.report.closed ++
        number s.report.releases ++ number s.report.lost := by
      simp only [← bytes]
      simp only [ReportUnit.directory, allSlots, List.flatMap_cons, List.flatMap_nil, List.append_nil, List.append_assoc]
      rfl
    rw [row, four]
    rfl

end Sys2Proof.Machine

/-!
PROOFS. Chapters 9 and 10: RELEASE REPORT, the reception of commands and the outbound line.
-/

namespace Sys2Proof.Machine

/-! ## RELEASE REPORT (R161) -/

theorem State.serveRelease_of_gt {s : State} {c : Command} (outside : 4 ≤ u8 c.args 0) :
    State.serveRelease c s = s.answerRangeFree c :=
  dif_neg (by omega)

/-- RELEASE REPORT of a slot the store has. -/
theorem State.serveRelease_of_slot {s : State} {c : Command} {i : Fin 4} (slot : u8 c.args 0 = i.val) :
    State.serveRelease c s =
      if (s.report.slots[i]).writing = true then s.answer c .busy []
      else if s.report.inReadout i = true then s.answer c .inReadout []
      else if (s.report.slots[i]).state = .empty then s.answer c .empty []
      else if (s.report.slots[i]).state = .held then (s.release i).answer c .ok []
      else s.answer c .ok [] := by
  have inside : u8 c.args 0 < 4 := by omega
  obtain rfl : i = ⟨u8 c.args 0, inside⟩ := Fin.ext slot.symm
  rw [State.serveRelease, dif_pos inside]
  dsimp only
  cases (s.report.slots[(⟨u8 c.args 0, inside⟩ : Fin 4)]).state <;> rfl

/-- Settles O54: the first line of R161 that applies. -/
theorem releaseReportAnswers : Obligations.ReleaseReportAnswers := by
  intro s dt tag b rest front room u
  have row : exec (.releaseReport dt) s =
      .next (State.serveRelease ⟨tag, [0x11, b]⟩ { s.advance dt with port.commands := rest }) :=
    congrArg _ (State.serve_advance dt _ front room rfl)
  rw [row]
  refine ⟨fun outside => ⟨Config.freeIndex s.freeCount, congrArg _ (State.serveRelease_of_gt outside)⟩, fun i slot => ?_⟩
  rw [State.serveRelease_of_slot (c := ⟨tag, [0x11, b]⟩) slot]
  let t : State := { s.advance dt with port.commands := rest }
  refine ⟨fun writing => congrArg _ (if_pos writing), fun whole => ?_⟩
  have whole' : ¬ (t.report.slots[i]).writing = true := fun writing =>
    Bool.false_ne_true (whole.symm.trans writing)
  rw [if_neg whole']
  refine ⟨fun e running here => ?_, fun free => ?_⟩
  · have busy : t.report.inReadout i = true := by
      rw [ReportUnit.inReadout_eq_any, show t.report.engine = some e from running]
      simpa using here
    exact congrArg _ (if_pos busy)
  · have idle : ¬ t.report.inReadout i = true := by
      rw [Bool.not_eq_true, ReportUnit.inReadout_eq_false_iff]
      exact free
    rw [if_neg idle]
    refine ⟨fun empty => congrArg _ (if_pos empty), fun held => ?_, fun released => ?_⟩
    · have kept : (t.report.slots[i]).state ≠ .empty := fun empty => nomatch held.symm.trans empty
      rw [if_neg kept]
      exact congrArg _ (if_pos held)
    · have kept : (t.report.slots[i]).state ≠ .empty := fun empty => nomatch released.symm.trans empty
      have past : (t.report.slots[i]).state ≠ .held := fun held => nomatch released.symm.trans held
      rw [if_neg kept]
      exact congrArg _ (if_neg past)

/-! ## The reception of commands (R163 to R165) -/

theorem execStationFrameReceive_of_command {s : State} {dt : Time} {frame : List Byte} {tag : Byte} {payload : List Byte}
    (parsed : parseStation frame = some ⟨0x01, tag, payload⟩) :
    exec (.stationFrameReceive dt frame) s = .next ((s.advance dt).receiveCommand ⟨tag, payload⟩) := by
  simp only [exec, execStationFrameReceive, parsed]
  rfl

theorem execStationFrameReceive_of_other {s : State} {dt : Time} {frame : List Byte}
    (other : ∀ f, parseStation frame = some f → f.kind ≠ 0x01) :
    exec (.stationFrameReceive dt frame) s = .next (s.advance dt).discardStation := by
  simp only [exec, execStationFrameReceive]
  cases parsed : parseStation frame with
  | none => rfl
  | some f => exact congrArg _ (if_neg (other f parsed))

/-- A discarded frame raises N6 with each 16th of them. -/
theorem State.discardStation_eq (s : State) : s.discardStation =
    if s.port.crcDiscards < 65535 ∧ (s.port.crcDiscards + 1) % 16 = 0 then
      ({ s with port.crcDiscards := min (s.port.crcDiscards + 1) 65535 } : State).raise .n6 .empty
    else { s with port.crcDiscards := min (s.port.crcDiscards + 1) 65535 } := by
  have sixteenth : (s.port.crcDiscards < 65535 ∧ bump s.port.crcDiscards % 16 = 0) ↔
      s.port.crcDiscards < 65535 ∧ (s.port.crcDiscards + 1) % 16 = 0 :=
    and_congr_right fun below => by rw [bump_of_lt below]
  exact if_congr sixteenth rfl rfl

/-- With a place for its reply a received command is queued, or answered QUEUE_FULL. -/
theorem State.receiveCommand_of_full {s : State} {tag code : Byte} {args : List Byte} (full : 4 ≤ s.port.commands.length) :
    s.receiveCommand ⟨tag, code :: args⟩ = if s.replyRoom = true then s.answer ⟨tag, code :: args⟩ .queueFull []
      else { s with port.commandsDropped := min (s.port.commandsDropped + 1) 65535 } :=
  if_neg (Nat.not_lt.2 full)

/-- The dispatcher's answer to a wrong argument length. -/
theorem State.serve_bad_length {s : State} (dt : Time) {code : Byte} {fits : Nat → Bool} (f : Command → State → State)
    {tag : Byte} {args : List Byte} {rest : List Command} (front : s.port.commands = ⟨tag, code :: args⟩ :: rest)
    (room : s.replyRoom = true) (wrong : fits args.length = false) :
    (s.advance dt).serve code fits f = (s.advance dt).replied rest ⟨tag, code, .badLength, []⟩ := by
  have front' : (s.advance dt).port.commands = ⟨tag, code :: args⟩ :: rest := front
  simp only [State.serve, front']
  refine (if_pos ⟨room, rfl⟩).trans ((if_neg ?_).trans rfl)
  rw [Bool.not_eq_true]
  exact wrong

/-- With no place for a reply the dispatcher takes nothing. -/
theorem State.serve_of_no_room {s : State} (dt : Time) (code : Byte) (fits : Nat → Bool) (f : Command → State → State)
    (full : s.replyRoom = false) : (s.advance dt).serve code fits f = s.advance dt := by
  unfold State.serve
  cases (s.advance dt).port.commands with
  | nil => rfl
  | cons c rest => exact if_neg fun taken => Bool.false_ne_true (full.symm.trans taken.1)

theorem execUnknownCommand_of_no_room {s : State} {dt : Time} (full : s.replyRoom = false) :
    exec (.unknownCommand dt) s = .next (s.advance dt) := by
  have full' : (s.advance dt).replyRoom = false := full
  simp only [exec, execUnknownCommand, full']
  cases (s.advance dt).port.commands <;> rfl

theorem isKnownCode_eq_false {b : Byte} (unknown : b.toNat = 0 ∨ 0x11 < b.toNat) : isKnownCode b = false :=
  decide_eq_false (by omega)

/-- Settles O56: reception by the first line of R164, then the dispatcher row by row. -/
theorem commandsArrive : Obligations.CommandsArrive := by
  intro s dt u
  refine ⟨fun frame tag code args parsed => ?_, fun frame other => ?_, fun tag code args rest front room unknown => ?_,
    fun tag rest front room => ⟨Config.freeByte s.freeCount, ?_⟩, ?_, ?_⟩
  · rw [execStationFrameReceive_of_command parsed]
    refine ⟨fun space => congrArg _ (if_pos space), fun full room => ?_, fun full room => ?_⟩
    · rw [State.receiveCommand_of_full (s := s.advance dt) full]
      exact congrArg _ (if_pos room)
    · rw [State.receiveCommand_of_full (s := s.advance dt) full]
      exact congrArg _ (if_neg (Bool.not_eq_true _ ▸ room))
  · intro t
    rw [execStationFrameReceive_of_other other, State.discardStation_eq]
    rfl
  · have front' : (s.advance dt).port.commands = ⟨tag, code :: args⟩ :: rest := front
    have room' : (s.advance dt).replyRoom = true := room
    simp only [exec, execUnknownCommand, front', room', Command.code?, List.head?_cons, isKnownCode_eq_false unknown]
    rfl
  · have front' : (s.advance dt).port.commands = ⟨tag, []⟩ :: rest := front
    have room' : (s.advance dt).replyRoom = true := room
    simp only [exec, execUnknownCommand, front', room']
    rfl
  · intro c code n tag args rest listed front wrong room
    have unfit : exactly n args.length = false := decide_eq_false wrong
    simp only [List.mem_cons, List.not_mem_nil, or_false, Prod.mk.injEq] at listed
    rcases listed with ⟨rfl, rfl, rfl⟩ | ⟨rfl, rfl, rfl⟩ | ⟨rfl, rfl, rfl⟩ | ⟨rfl, rfl, rfl⟩ | ⟨rfl, rfl, rfl⟩ | ⟨rfl, rfl, rfl⟩ | ⟨rfl, rfl, rfl⟩ | ⟨rfl, rfl, rfl⟩ | ⟨rfl, rfl, rfl⟩ | ⟨rfl, rfl, rfl⟩ | ⟨rfl, rfl, rfl⟩ | ⟨rfl, rfl, rfl⟩ | ⟨rfl, rfl, rfl⟩ | ⟨rfl, rfl, rfl⟩ | ⟨rfl, rfl, rfl⟩
    all_goals exact congrArg _ (State.serve_bad_length dt _ front room unfit)
  · intro c listed full
    simp only [List.mem_cons, List.not_mem_nil, or_false] at listed
    rcases listed with rfl | rfl | rfl | rfl | rfl | rfl | rfl | rfl | rfl | rfl | rfl | rfl | rfl | rfl | rfl | rfl | rfl | rfl
    on_goal 18 => exact execUnknownCommand_of_no_room full
    all_goals exact congrArg _ (State.serve_of_no_room dt _ _ _ full)

/-! ## The outbound line (R162, R166, R167) -/

theorem Readout.frameLeft_foreign {e : Readout} (foreign : e.foreign ≠ 0) (f : OutFrame) :
    e.frameLeft f = { e with foreign := e.foreign - 1 } :=
  if_pos (Nat.pos_of_ne_zero foreign)

theorem Readout.frameLeft_own {e : Readout} (own : e.foreign = 0) (f : OutFrame) :
    e.frameLeft f = { e with left := e.left + f.recordCount } :=
  if_neg (by omega)

/-- With nothing ranked above it the REPORT class gives its oldest frame to the line. -/
theorem State.arbitrate_report {s : State} {f : OutFrame} {l : List OutFrame} (alerts : s.port.alertQ = [])
    (replies : s.port.replyQ = []) (front : s.port.reportQ = f :: l) : s.arbitrate =
      { s with port.reportQ := l, port.line := some f, report.engine := s.report.engine.map (·.frameLeft f) } := by
  simp only [State.arbitrate, alerts, replies, front]

/-- Settles O57: the classes in the order of their rank. -/
theorem outboundLineServes : Obligations.OutboundLineServes := by
  intro s dt f l u
  have row : exec (.transmitArbiter dt) s = .next u.arbitrate := rfl
  rw [row]
  refine ⟨fun front => ?_, fun alerts => ⟨fun front => ?_, fun replies => ⟨fun front idle => ?_,
    fun e front running => ⟨fun foreign => ?_, fun slot part seq first records own frame => ?_⟩,
    fun reports => ⟨fun front => ?_, fun results => ⟨fun front => ?_, fun none => ?_⟩⟩⟩⟩, fun front room => ?_,
    fun front full => ?_⟩
  · have front' : u.port.alertQ = f :: l := front
    simp only [State.arbitrate, front']
  · have alerts' : u.port.alertQ = [] := alerts
    have front' : u.port.replyQ = f :: l := front
    simp only [State.arbitrate, alerts', front']
  · have still : u.report.engine.map (·.frameLeft f) = u.report.engine := by
      rw [show u.report.engine = none from idle]
      rfl
    rw [State.arbitrate_report (s := u) alerts replies front, still]
  · have running' : u.report.engine = some e := running
    rw [State.arbitrate_report (s := u) alerts replies front, running', Option.map_some, Readout.frameLeft_foreign foreign]
  · have running' : u.report.engine = some e := running
    rw [State.arbitrate_report (s := u) alerts replies front, running', Option.map_some, Readout.frameLeft_own own, frame]
    rfl
  · have alerts' : u.port.alertQ = [] := alerts
    have replies' : u.port.replyQ = [] := replies
    have reports' : u.port.reportQ = [] := reports
    have front' : u.port.resultQ = f :: l := front
    simp only [State.arbitrate, alerts', replies', reports', front']
  · have alerts' : u.port.alertQ = [] := alerts
    have replies' : u.port.replyQ = [] := replies
    have reports' : u.port.reportQ = [] := reports
    have results' : u.port.resultQ = [] := results
    have front' : u.port.forwardQ = f :: l := front
    simp only [State.arbitrate, alerts', replies', reports', results', front']
  · have alerts' : u.port.alertQ = [] := alerts
    have replies' : u.port.replyQ = [] := replies
    have reports' : u.port.reportQ = [] := reports
    have results' : u.port.resultQ = [] := results
    have none' : u.port.forwardQ = [] := none
    simp only [State.arbitrate, alerts', replies', reports', results', none']
  · have front' : u.port.heldReplies = f :: l := front
    have room' : u.port.replyQ.length < 4 := room
    simp only [exec, execHeldReply]
    rw [front']
    exact if_pos room'
  · have front' : u.port.heldReplies = f :: l := front
    simp only [exec, execHeldReply]
    rw [front']
    exact if_neg (Nat.not_lt.2 full)

end Sys2Proof.Machine

/-!
PROOFS. Chapter 11: a station frame is received as it was sent, and the byte layout of the vehicle record.
-/

namespace Sys2Proof.Machine

/-! ## Station frames (R177) -/

theorem u16_at_two_le2 {n : Nat} (small : n < 65536) (x y : Byte) (l : List Byte) : u16 ([x, y] ++ le2 n ++ l) 2 = n := by
  refine (u16_at_two x y _ _ l).trans ?_
  rw [BitVec.toNat_ofNat, BitVec.toNat_ofNat]
  omega

/-- A 16-bit value laid out low byte first is read back from where it stands. -/
theorem half_append_leHalf (l : List Byte) (h : Half) : half (l ++ leHalf h) l.length = h := by
  have low : byteAt (l ++ leHalf h) l.length = BitVec.ofNat 8 h.toNat := by simp [byteAt, leHalf, le2]
  have high : byteAt (l ++ leHalf h) (l.length + 1) = BitVec.ofNat 8 (h.toNat / 256) := by
    simp [byteAt, leHalf, le2]
  apply BitVec.eq_of_toNat_eq
  rw [half, low, high, toNat_append_bytes, BitVec.toNat_ofNat, BitVec.toNat_ofNat]
  have := h.isLt
  omega

theorem parseStation_withCrc (kind tag : Byte) {payload : List Byte} (fits : payload.length ≤ 1024) :
    parseStation (withCrc ([kind, tag] ++ le2 payload.length ++ payload)) = some ⟨kind, tag, payload⟩ := by
  let head : List Byte := [kind, tag] ++ le2 payload.length ++ payload
  have size : u16 (withCrc head) 2 = payload.length := by
    rw [withCrc, List.append_assoc ([kind, tag] ++ le2 payload.length)]
    exact u16_at_two_le2 (by omega) ..
  have headLength : head.length = payload.length + 4 := by
    simp only [head, List.length_append, le2_length, List.length_cons, List.length_nil]
    omega
  have length : (withCrc head).length = payload.length + 6 := by
    rw [withCrc, List.length_append, headLength, leHalf_length]
  have summed : crc16 ((withCrc head).take (payload.length + 4)) = half (withCrc head) (payload.length + 4) := by
    rw [← headLength, withCrc, List.take_left, half_append_leHalf]
  have body : ((withCrc head).drop 4).take payload.length = payload := List.take_left
  rw [show [kind, tag] ++ le2 payload.length ++ payload = head from rfl, parseStation, size, length, if_neg (by omega),
    if_neg (by omega), if_neg (by omega), if_neg (not_not.2 summed), body]
  rfl

/-! ## The vehicle record (R179, Table 11.10) -/

/-- Settles O55: the receiver's checks one by one, and the vehicle record's bytes chunk by chunk. -/
theorem stationFramesRoundTrip : Obligations.StationFramesRoundTrip := by
  refine ⟨fun kind tag payload fits => parseStation_withCrc kind tag fits, fun v => ?_⟩
  intro field number flag
  have two (n : Nat) : number 2 n = le2 n := le2_eq_number n
  have four (n : Nat) : number 4 n = le4 n := le4_eq_number n
  have scaled (b : Bool) (n : Nat) : flag b n = n * (if b = true then 1 else 0) := by simp [flag]
  have flags : flag v.atClose 1 + flag v.isPartial 2 + flag v.unjudged 4 + flag v.total.isSome 8 =
      bits [v.atClose, v.isPartial, v.unjudged, v.total.isSome] := by
    simp only [bits, scaled]
    omega
  simp only [field, two, four, flags]
  unfold Vehicle.bytes
  refine ⟨by simp, ?_, ?_, ?_, fun none => ?_, fun load n some pos => ?_, fun few => ?_⟩
  · simp [take_chunk]
  · simp [drop_chunk, take_chunk]
    rfl
  · simp [drop_chunk, take_chunk]
    cases v.judged <;> rfl
  · simp [drop_chunk, take_chunk, none]
    exact ⟨rfl, rfl⟩
  · simp [drop_chunk, take_chunk, some]
    rfl
  · rw [← kindCodes_of_le few]
    simp [drop_chunk]

end Sys2Proof.Machine

/-!
PROOFS. Chapter 10: the site reset and the replies that follow it.
-/

namespace Sys2Proof.Machine

/-! ## The replies of what a site reset ended (R77, R162) -/

/-- The REPLY of a transaction that a site reset ended, if there was one. -/
def abortedReplies (slot : Option Transaction) (work : Option Work) : List OutFrame :=
  slot.toList.map fun t => .reply ⟨t.tag, codeNodeTransaction, .ok, (t.abort work).results .aborted⟩

/-- The REPLY of a readout that a site reset ended, if there was one. -/
def resetReplies (engine : Option Readout) : List OutFrame := engine.toList.map fun e => .reply (e.reply .reset e.left)

theorem Transaction.abort_eq (t : Transaction) (work : Option Work) : t.abort work =
    { t with unanswered := (t.abort work).unanswered, refused := (t.abort work).refused } := by
  obtain ⟨tag, mode, disable, items, inFlight, index, firstAttempt⟩ := t
  cases work with
  | none => rfl
  | some w =>
    cases w with
    | item sent => cases sent <;> cases firstAttempt <;> rfl
    | _ => rfl

theorem State.replyAborted_of_room {s : State} (held : s.port.heldReplies = []) (room : s.port.replyQ.length < 4)
    (slot : Option Transaction) (work : Option Work) :
    s.replyAborted slot work = { s with port.replyQ := s.port.replyQ ++ abortedReplies slot work } := by
  cases slot with
  | none => simp [State.replyAborted, abortedReplies]
  | some t => exact State.offerReply_of_room held room

theorem State.replyReset_of_room {s : State} (held : s.port.heldReplies = []) (room : s.port.replyQ.length < 4)
    (engine : Option Readout) :
    s.replyReset engine = { s with port.replyQ := s.port.replyQ ++ resetReplies engine } := by
  cases engine with
  | none => simp [State.replyReset, resetReplies]
  | some e => exact State.offerReply_of_room held room

theorem abortedReplies_length (slot : Option Transaction) (work : Option Work) : (abortedReplies slot work).length ≤ 1 := by
  cases slot <;> simp [abortedReplies]

theorem resetReplies_length (engine : Option Readout) : (resetReplies engine).length ≤ 1 := by
  cases engine <;> simp [resetReplies]

theorem State.resetState_eq (s : State) : s.resetState = { s.resetBlocks with session := s.resetState.session } := by
  unfold State.resetState
  split <;> rfl

/-- After a site reset the REPLY class is empty, so that every reply of the reset finds its place there. -/
theorem State.serveSiteReset_eq (c : Command) (s : State) : State.serveSiteReset c s =
    { s.resetState with
      port.replyQ := abortedReplies s.node.slot s.node.work ++ resetReplies s.report.engine ++ [.reply (c.reply .ok [])] } := by
  have port : s.resetState.port = { commands := s.port.commands, line := s.port.line } := by
    rw [State.resetState_eq]
    rfl
  have one := abortedReplies_length s.node.slot s.node.work
  have two := resetReplies_length s.report.engine
  rw [State.serveSiteReset, State.replyAborted_of_room (by rw [port]) (by rw [port]; exact Nat.zero_lt_succ 3),
    State.replyReset_of_room (by rw [port]) (by simp [port]; omega),
    State.offerReply_of_room (by simp [port]) (by simp [port]; omega)]
  simp [port]

/-! ## The session after a site reset (R42) -/

theorem State.resetState_session (s : State) : s.resetState.session =
    { SessionCtl.siteReset s.session s.site.isSome with
      idle := if s.site ≠ none ∧ s.session.state ≠ .standby then s.idleTimer else none } := by
  have state : s.resetBlocks.session.state = .idle ↔ s.site ≠ none ∧ s.session.state ≠ .standby := by
    show (SessionCtl.siteReset s.session s.site.isSome).state = .idle ↔ _
    unfold SessionCtl.siteReset
    cases s.site <;> by_cases asleep : s.session.state = .standby <;> simp [asleep]
  unfold State.resetState
  by_cases ready : s.site ≠ none ∧ s.session.state ≠ .standby
  · have idle := state.2 ready
    rw [if_pos idle, if_pos ready]
    have same : { s.resetBlocks.session with state := .idle, idle := s.idleTimer } =
      { s.resetBlocks.session with idle := s.idleTimer } := by rw [← idle]
    exact same
  · rw [if_neg (mt state.1 ready), if_neg ready]
    rfl

/-- Settles O59: the state as the reset leaves it, part by part, and the replies in their order. -/
theorem siteResetLeaves : Obligations.SiteResetLeaves := by
  intro s dt tag rest front room
  let u : State := { s.advance dt with port.commands := rest }
  have row : exec (.siteReset dt) s = .next (State.serveSiteReset ⟨tag, [0x05]⟩ u) :=
    congrArg _ (State.serve_advance dt _ front room rfl)
  refine ⟨_, row.trans (congrArg _ (State.serveSiteReset_eq _ u)), ?_, ?_, fun k => ?_, fun i => ?_, fun h => ?_,
    abortedReplies s.node.slot s.node.work, resetReplies s.report.engine, rfl, fun empty => ?_, fun x slot => ?_,
    fun idle => ?_, fun e running => ?_⟩
  · rw [State.resetState_eq]
    rfl
  · refine (State.resetState_session u).trans ?_
    have state : (SessionCtl.siteReset s.session s.site.isSome).state =
        if s.site = none then .notReady else if s.session.state = .standby then .standby else .idle := by
      cases site : s.site <;> rfl
    rw [← state]
    rfl
  · rw [State.resetState_eq]
    exact Vec.map_get ..
  · rw [State.resetState_eq]
    refine (Vec.map_get ..).trans ?_
    show freshZero s.tables.active.channels[i] = _
    cases s.tables.active.channels[i] <;> rfl
  · rw [State.resetState_eq]
    cases h <;> rfl
  · rw [empty]
    rfl
  · refine ⟨(x.abort s.node.work).unanswered, (x.abort s.node.work).refused, ?_, ?_⟩
    · unfold Transaction.abort
      cases s.node.work with
      | none => rfl
      | some w =>
        cases w with
        | item sent => cases sent <;> cases x.firstAttempt <;> rfl
        | _ => rfl
    · rw [slot]
      show [OutFrame.reply ⟨x.tag, codeNodeTransaction, .ok, (x.abort s.node.work).results .aborted⟩] = _
      rw [x.abort_eq]
      rfl
  · rw [idle]
    rfl
  · rw [running]
    rfl

end Sys2Proof.Machine

/-!
PROOFS. Chapter 10: what each entry of a table is read as from its bytes (Tables 11.7 and 11.8).
-/

namespace Sys2Proof.Machine

/-! ## Fields and ranges -/

/-- Each value of a list lies between its two limits. -/
def Ranges (l : List (Nat × Nat × Nat)) : Prop := ∀ x ∈ l, x.2.1 ≤ x.1 ∧ x.1 ≤ x.2.2

@[simp] theorem ranges_nil : Ranges [] := fun _ h => nomatch h

@[simp] theorem ranges_cons (n lo hi : Nat) (l : List (Nat × Nat × Nat)) :
    Ranges ((n, lo, hi) :: l) ↔ within lo hi n = true ∧ Ranges l := by
  simp [Ranges, within]

theorem channelKindOf_eq (n : Nat) : channelKindOf n = [ChannelKind.load, .bearing, .ambient][n]? := by
  rcases n with _ | _ | _ | n <;> rfl

theorem forwardModeOf_eq (n : Nat) : forwardModeOf n = [ForwardMode.never, .session, .always, .decimate][n]? := by
  rcases n with _ | _ | _ | _ | n <;> rfl

theorem gateActionOf_eq (n : Nat) :
    gateActionOf n = [GateAction.forcedLow, .activeLow, .activeHigh, .forcedHigh][n]? := by
  rcases n with _ | _ | _ | _ | n <;> rfl

theorem g3SourceOf_eq (n : Nat) : g3SourceOf n = [G3Source.none, .sessionOpen, .anySPending, .exitPulse][n]? := by
  rcases n with _ | _ | _ | _ | n <;> rfl

theorem boolOf_eq (n : Nat) : boolOf n = [false, true][n]? := by
  rcases n with _ | _ | n <;> rfl

/-! ## The entries of the four tables with a valid byte -/

theorem parseEntry_eq_some_iff {α : Type} {f : List Byte → Option α} {b : List Byte} {e : Entry α} :
    parseEntry f b = some e ↔ (u8 b 0 = 0 ∧ e = .notValid b) ∨ (u8 b 0 = 1 ∧ ∃ x, e = .valid x ∧ f b = some x) := by
  unfold parseEntry
  rcases u8 b 0 with _ | _ | n
  · simp [eq_comm]
  · cases f b <;> simp [eq_comm]
  · simp

theorem parseThreshold_eq_some_iff {b : List Byte} {t : Threshold} : parseThreshold b = some t ↔
    t.imbalance = u8 b 1 ∧ (∀ i : Fin 4, t.impact[i] = u16 b (2 + 2 * i.val)) ∧ t.ratio = u16 b 10 ∧
    t.axleLoad = u16 b 12 ∧ t.rise = u16 b 14 ∧ t.difference = u16 b 16 ∧ t.outlierMargin = u16 b 18 ∧
    Ranges [(t.imbalance, 1, 50), (t.impact[0], 50, 13000), (t.impact[1], 50, 13000), (t.impact[2], 50, 13000),
      (t.impact[3], 50, 13000), (t.ratio, 100, 400), (t.axleLoad, 200, 26000), (t.rise, 50, 3000),
      (t.difference, 50, 3000), (t.outlierMargin, 20, 1000)] := by
  have impacts : (∀ i : Fin 4, t.impact[i] = u16 b (2 + 2 * i.val)) ↔ #v[u16 b 2, u16 b 4, u16 b 6, u16 b 8] = t.impact := by
    constructor
    · intro each
      refine Vector.ext fun i inside => ?_
      rw [show t.impact[i] = _ from each ⟨i, inside⟩]
      match i, inside with
      | 0, _ | 1, _ | 2, _ | 3, _ => rfl
    · intro whole i
      rw [← whole]
      match i with
      | 0 | 1 | 2 | 3 => rfl
  rw [impacts]
  unfold parseThreshold
  dsimp only
  rw [Option.ite_none_right_eq_some, Option.some_inj]
  obtain ⟨impact, ratio, axleLoad, imbalance, rise, difference, margin⟩ := t
  simp only [Threshold.mk.injEq, ranges_cons, ranges_nil]
  constructor
  · rintro ⟨ok, rfl, rfl, rfl, rfl, rfl, rfl, rfl⟩
    simpa [and_assoc] using ok
  · rintro ⟨rfl, rfl, rfl, rfl, rfl, rfl, rfl, ok⟩
    simpa [and_assoc] using ok

theorem spacingSlots_eq (b : List Byte) : spacingSlots b = (List.range 7).map fun i => u16 b (8 + 2 * i) := by
  simp [spacingSlots, List.range_succ]

/-- The first `n` spacing slots by their offsets. -/
theorem eq_take_spacingSlots_iff {b : List Byte} {n : Nat} {l : List Nat} (fits : n ≤ 7) :
    (spacingSlots b).take n = l ↔ l.length = n ∧ ∀ i x, l[i]? = some x → x = u16 b (8 + 2 * i) := by
  rw [spacingSlots_eq, ← List.map_take, List.take_range, min_eq_left fits]
  constructor
  · rintro rfl
    refine ⟨by simp, fun i x here => ?_⟩
    obtain ⟨inside, value⟩ := List.getElem?_eq_some_iff.1 here
    simpa using value.symm
  · rintro ⟨length, slots⟩
    refine List.ext_getElem (by simp [length]) fun i inside here => ?_
    simpa using (slots i l[i] (List.getElem?_eq_getElem here)).symm

theorem parsePattern_eq_some_iff {b : List Byte} {p : Pattern} : parsePattern b = some p ↔
    p.cls = u8 b 1 ∧ p.n = u8 b 2 ∧ p.set = u8 b 3 ∧ p.tolerance = u16 b 4 ∧ p.gap = u16 b 6 ∧
    p.spacings.length = p.n - 1 ∧
    (∀ i x, p.spacings[i]? = some x → x = u16 b (8 + 2 * i) ∧ 500 ≤ x ∧ x ≤ 25000) ∧
    Ranges [(p.cls, 1, 255), (p.n, 2, 8), (p.set, 0, 15), (p.tolerance, 10, 500), (p.gap, 500, 10000)] := by
  unfold parsePattern
  dsimp only
  rw [Option.ite_none_right_eq_some, Option.some_inj]
  obtain ⟨cls, n, spacings, tolerance, gap, set⟩ := p
  have limits (l : List Nat) : l.all (within 500 25000) = true ↔ ∀ (i x : Nat), l[i]? = some x → 500 ≤ x ∧ x ≤ 25000 := by
    simp only [List.all_eq_true, within, decide_eq_true_eq, List.mem_iff_getElem?]
    exact ⟨fun all i x here => all x ⟨i, here⟩, fun all x ⟨i, here⟩ => all i x here⟩
  simp only [Pattern.mk.injEq, ranges_cons, ranges_nil, Bool.and_eq_true, limits]
  constructor
  · rintro ⟨⟨⟨⟨⟨⟨okCls, okN⟩, okSet⟩, okTol⟩, okGap⟩, inLimits⟩, rfl, rfl, list, rfl, rfl, rfl⟩
    have most : u8 b 2 - 1 ≤ 7 := by
      simp [within] at okN
      omega
    obtain ⟨length, slots⟩ := (eq_take_spacingSlots_iff most).1 list
    rw [list] at inLimits
    exact ⟨rfl, rfl, rfl, rfl, rfl, length, fun i x here => ⟨slots i x here, inLimits i x here⟩, okCls, okN,
      by simpa [within] using okSet, okTol, okGap, trivial⟩
  · rintro ⟨rfl, rfl, rfl, rfl, rfl, length, slots, okCls, okN, okSet, okTol, okGap, -⟩
    have most : u8 b 2 - 1 ≤ 7 := by
      simp [within] at okN
      omega
    have list := (eq_take_spacingSlots_iff most).2 ⟨length, fun i x here => (slots i x here).1⟩
    rw [list]
    exact ⟨⟨⟨⟨⟨⟨okCls, okN⟩, by simpa [within] using okSet⟩, okTol⟩, okGap⟩, fun i x here => (slots i x here).2⟩,
      rfl, rfl, rfl, rfl, rfl, rfl⟩

/-! ## The Channel Table and Site Constants -/

/-- The ranges of a Channel Table entry, which its kind and its forwarding mode decide. -/
theorem channelRanges_iff (channel rail bay decimation : Nat) (kind : ChannelKind) (forward : ForwardMode) :
    (decide (channel ≤ 7) && (decide (kind = .ambient) || within 1 2 rail) &&
      (if kind = .load then within 1 6 bay else decide (bay = 0)) &&
      (decide (forward ≠ .decimate) || within 2 64 decimation)) = true ↔
    channel ≤ 7 ∧ (kind ≠ .ambient → rail = 1 ∨ rail = 2) ∧ (kind = .load → 1 ≤ bay ∧ bay ≤ 6) ∧
    (kind ≠ .load → bay = 0) ∧ (forward = .decimate → 2 ≤ decimation ∧ decimation ≤ 64) := by
  have rails : within 1 2 rail = true ↔ rail = 1 ∨ rail = 2 := by
    simp only [within, decide_eq_true_eq]
    omega
  simp only [Bool.and_eq_true, Bool.or_eq_true, decide_eq_true_eq, rails, and_assoc, ← imp_iff_not_or]
  cases kind <;> cases forward <;> simp [within]

theorem parseChannel_eq_some_iff {b : List Byte} {e : Channel} : parseChannel b = some e ↔
    e.node.val + 1 = u8 b 1 ∧ e.channel = u8 b 2 ∧ [ChannelKind.load, .bearing, .ambient][u8 b 3]? = some e.kind ∧
    e.rail = u8 b 4 ∧ e.bay = u8 b 5 ∧ [ForwardMode.never, .session, .always, .decimate][u8 b 6]? = some e.forward ∧
    e.decimation = u8 b 7 ∧ e.offset = (BitVec.ofNat 16 (u16 b 8)).toInt ∧ e.gain = u16 b 10 ∧ e.channel ≤ 7 ∧
    (e.kind ≠ .ambient → e.rail = 1 ∨ e.rail = 2) ∧ (e.kind = .load → 1 ≤ e.bay ∧ e.bay ≤ 6) ∧
    (e.kind ≠ .load → e.bay = 0) ∧ (e.forward = .decimate → 2 ≤ e.decimation ∧ e.decimation ≤ 64) := by
  rw [← channelKindOf_eq, ← forwardModeOf_eq, u16, BitVec.ofNat_toNat, BitVec.setWidth_eq]
  unfold parseChannel
  cases readKind : channelKindOf (u8 b 3) with
  | none => simp
  | some kind =>
    cases readForward : forwardModeOf (u8 b 6) with
    | none => simp
    | some forward =>
      dsimp only
      by_cases node : 1 ≤ u8 b 1 ∧ u8 b 1 ≤ 6
      · rw [dif_pos node, Option.ite_none_right_eq_some, Option.some_inj]
        constructor
        · rintro ⟨ok, rfl⟩
          exact ⟨by dsimp only; omega, rfl, rfl, rfl, rfl, rfl, rfl, rfl, rfl, (channelRanges_iff ..).1 ok⟩
        · obtain ⟨⟨place, inside⟩, channel, kind', rail, bay, forward', decimation, offset, gain⟩ := e
          dsimp only
          rintro ⟨at_place, rfl, same_kind, rfl, rfl, same_forward, rfl, rfl, rfl, ok⟩
          obtain rfl : kind = kind' := Option.some.inj same_kind
          obtain rfl : forward = forward' := Option.some.inj same_forward
          obtain rfl : place = u8 b 1 - 1 := by omega
          exact ⟨(channelRanges_iff ..).2 ok, rfl⟩
      · rw [dif_neg node]
        refine iff_of_false nofun fun ⟨place, _⟩ => node ?_
        omega

end Sys2Proof.Machine

/-!
PROOFS. Chapter 10: the Site Constants record from its bytes, and its cross-field checks (R171).
-/

namespace Sys2Proof.Machine

/-! ## The bays and the scanner of a rail -/

/-- Two bay starts of one rail whose bays do not overlap. -/
def Apart (len : Nat) (a b : Option Nat) : Prop := ∀ x y, a = some x → b = some y → x + len ≤ y ∨ y + len ≤ x

theorem railBaysOk_iff (lab len : Nat) (l : List (Option Nat)) : railBaysOk lab len l = true ↔
    (∀ x, some x ∈ l → inZone lab x len = true) ∧ l.Pairwise (Apart len) := by
  induction l with
  | nil => simp [railBaysOk]
  | cons o l ih =>
    cases o with
    | none =>
      rw [railBaysOk, ih, List.pairwise_cons]
      simp [Apart]
    | some x =>
      rw [railBaysOk, Bool.and_eq_true, Bool.and_eq_true, List.all_eq_true, ih, List.pairwise_cons]
      refine Iff.trans (and_congr (and_congr_right' (forall₂_congr (q := fun y _ => Apart len (some x) y)
        fun y _ => ?_)) Iff.rfl) ?_
      · cases y <;> simp [Apart]
      · simp only [List.mem_cons, Option.some.injEq, forall_eq_or_imp]
        tauto

/-- The bays of a rail by their index. -/
theorem railBays_iff (lab len : Nat) (v : Vector (Option Nat) 6) :
    v.toList.all positionOk = true ∧ railBaysOk lab len v.toList = true ↔
    ∀ (i : Fin 6) (x : Nat), v[i] = some x → 200 ≤ x ∧ x ≤ 19800 ∧ x + len + 200 ≤ lab ∧
      ∀ (j : Fin 6) (y : Nat), i ≠ j → v[j] = some y → x + len ≤ y ∨ y + len ≤ x := by
  rw [railBaysOk_iff, List.pairwise_iff_getElem, List.all_eq_true]
  have mem (o : Option Nat) : o ∈ v.toList ↔ ∃ i : Fin 6, v[i] = o := by
    simp [Vector.mem_toList_iff, Vector.mem_iff_getElem, Fin.exists_iff]
  simp only [mem, forall_exists_index, forall_apply_eq_imp_iff]
  constructor
  · rintro ⟨positions, zone, apart⟩ i x here
    have inPosition := positions i
    have inside := zone x i here
    simp only [here, positionOk, within, inZone, decide_eq_true_eq] at inPosition inside
    refine ⟨inPosition.1, inPosition.2, by omega, fun j y other there => ?_⟩
    rcases Nat.lt_or_gt_of_ne (Fin.val_ne_of_ne other) with lower | higher
    · exact apart i j (by simp) (by simp) lower x y here there
    · exact (apart j i (by simp) (by simp) higher y x there here).symm
  · intro each
    refine ⟨fun i => ?_, fun x i here => ?_, fun i j inI inJ lower x y here there => ?_⟩
    · cases here : v[i] with
      | none => rfl
      | some x =>
        obtain ⟨low, high, -⟩ := each i x here
        simp [positionOk, within, low, high]
    · obtain ⟨low, high, fits, -⟩ := each i x here
      simp [inZone]
      omega
    · obtain ⟨-, -, -, apart⟩ := each ⟨i, by simpa using inI⟩ x here
      exact apart ⟨j, by simpa using inJ⟩ y (by simpa using lower.ne) there

theorem scanner_iff (lab : Nat) (o : Option Nat) : positionOk o = true ∧ scannerOk lab o = true ↔
    ∀ x, o = some x → 200 ≤ x ∧ x ≤ 19800 ∧ x + 200 ≤ lab := by
  cases o with
  | none => simp [positionOk, scannerOk]
  | some x =>
    simp only [positionOk, scannerOk, within, inZone, decide_eq_true_eq, Option.some.injEq, forall_eq']
    omega

/-! ## The record -/

/-- A Site Constants record that its bytes give and that passes its checks. -/
theorem parseSite_eq_some_iff {b : List Byte} {c : SiteConstants} : parseSite b = some c ↔
    (c.siteId = u16 b 0 ∧ c.lab = u16 b 2 ∧ c.coilSpacing = u16 b 4 ∧ c.minPulse = u16 b 6 ∧ c.standstill = u8 b 8 ∧
      c.clear = u8 b 9 ∧ c.abandon = u8 b 10 ∧ c.settle = u8 b 11 ∧ c.arm = u16 b 12 ∧ c.idle = u16 b 14 ∧
      c.bayLength = u16 b 16 ∧
      (∀ i : Fin 6, c.bayStart.r1[i] = positionOf (u16 b (18 + 2 * i.val)) ∧
        c.bayStart.r2[i] = positionOf (u16 b (30 + 2 * i.val))) ∧
      c.core = u8 b 42 ∧ c.halfWindow = u8 b 43 ∧ c.minSpeed = u16 b 44 ∧ c.maxSpeed = u16 b 46 ∧
      c.impactCritical = u16 b 48 ∧ c.axleLoadCritical = u16 b 50 ∧ c.scanner.r1 = positionOf (u16 b 52) ∧
      c.scanner.r2 = positionOf (u16 b 54) ∧ c.bearingCritical = u16 b 56 ∧ c.unclassifiedGap = u16 b 58 ∧
      (∀ g : Fin 4, gateActionOf (u8 b (60 + g.val)) = some c.gates[g]) ∧ g3SourceOf (u8 b 64) = some c.g3 ∧
      boolOf (u8 b 65) = some c.liveResults ∧ c.camera = positionOf (u16 b 66) ∧ c.cameraWidth = u16 b 68) ∧
    c.inRange = true := by
  unfold parseSite
  constructor
  · intro read
    split at read
    · rename_i g0 g1 g2 g3 src live at0 at1 at2 at3 atSrc atLive
      dsimp only at read
      rw [Option.ite_none_right_eq_some, Option.some_inj] at read
      obtain ⟨ok, rfl⟩ := read
      refine ⟨⟨rfl, rfl, rfl, rfl, rfl, rfl, rfl, rfl, rfl, rfl, rfl, fun i => ⟨Vector.getElem_ofFn .., Vector.getElem_ofFn ..⟩,
        rfl, rfl, rfl, rfl, rfl, rfl, rfl, rfl, rfl, rfl, fun g => ?_, atSrc, atLive, rfl, rfl⟩, ok⟩
      match g with
      | 0 => exact at0
      | 1 => exact at1
      | 2 => exact at2
      | 3 => exact at3
    · exact nomatch read
  · obtain ⟨siteId, lab, coilSpacing, minPulse, standstill, clear, abandon, settle, arm, idle, bayLength, ⟨bays1, bays2⟩, core,
      halfWindow, minSpeed, maxSpeed, impactCritical, axleLoadCritical, ⟨scanner1, scanner2⟩, bearingCritical, unclassifiedGap,
      gates, g3, liveResults, camera, cameraWidth⟩ := c
    dsimp only
    rintro ⟨⟨rfl, rfl, rfl, rfl, rfl, rfl, rfl, rfl, rfl, rfl, rfl, bays, rfl, rfl, rfl, rfl, rfl, rfl, rfl, rfl, rfl, rfl,
      actions, src, live, rfl, rfl⟩, ok⟩
    obtain rfl : bays1 = Vector.ofFn fun i : Fin 6 => positionOf (u16 b (18 + 2 * i.val)) :=
      Vector.ext fun i inside => by simpa using (bays ⟨i, inside⟩).1
    obtain rfl : bays2 = Vector.ofFn fun i : Fin 6 => positionOf (u16 b (30 + 2 * i.val)) :=
      Vector.ext fun i inside => by simpa using (bays ⟨i, inside⟩).2
    have each : #v[gates[0], gates[1], gates[2], gates[3]] = gates :=
      Vector.ext fun i inside => by
        match i, inside with
        | 0, _ | 1, _ | 2, _ | 3, _ => rfl
    have at0 : gateActionOf (u8 b 60) = some gates[0] := actions 0
    have at1 : gateActionOf (u8 b 61) = some gates[1] := actions 1
    have at2 : gateActionOf (u8 b 62) = some gates[2] := actions 2
    have at3 : gateActionOf (u8 b 63) = some gates[3] := actions 3
    simp only [at0, at1, at2, at3, src, live, each]
    exact if_pos ok

/-- The ranges and the cross-field checks of a Site Constants record. -/
theorem SiteConstants.sound_iff (c : SiteConstants) : c.inRange = true ∧ c.crossOk = true ↔
    Ranges [(c.lab, 2000, 20000), (c.coilSpacing, 20, 250), (c.minPulse, 10, 500), (c.standstill, 2, 60), (c.clear, 2, 60),
      (c.abandon, 1, 30), (c.settle, 1, 60), (c.arm, 10, 600), (c.idle, 30, 1800), (c.bayLength, 100, 1500), (c.core, 20, 90),
      (c.halfWindow, 20, 200), (c.minSpeed, 50, 400), (c.maxSpeed, 400, 1600), (c.impactCritical, 100, 13000),
      (c.axleLoadCritical, 200, 26000), (c.bearingCritical, 100, 3000), (c.unclassifiedGap, 1000, 6000),
      (c.cameraWidth, 100, 10000)] ∧
    (∀ (rail : Rail) (i : Fin 6) (x : Nat), (c.bayStart.get rail)[i] = some x →
      200 ≤ x ∧ x ≤ 19800 ∧ x + c.bayLength + 200 ≤ c.lab ∧
      ∀ (j : Fin 6) (y : Nat), i ≠ j → (c.bayStart.get rail)[j] = some y → x + c.bayLength ≤ y ∨ y + c.bayLength ≤ x) ∧
    (∀ (rail : Rail) (x : Nat), c.scanner.get rail = some x → 200 ≤ x ∧ x ≤ 19800 ∧ x + 200 ≤ c.lab) ∧
    (∀ x, c.camera = some x → x ≤ c.lab) ∧ c.minSpeed < c.maxSpeed := by
  have rails (p : Rail → Prop) : (∀ rail, p rail) ↔ p .r1 ∧ p .r2 :=
    ⟨fun all => ⟨all _, all _⟩, fun both rail => by cases rail; exacts [both.1, both.2]⟩
  rw [rails, rails]
  simp only [PerRail.get, ← railBays_iff, ← scanner_iff, ranges_cons, ranges_nil]
  unfold SiteConstants.inRange SiteConstants.crossOk
  simp only [Bool.and_eq_true]
  cases c.camera with
  | none =>
    simp only [decide_eq_true_eq, reduceCtorEq, false_imp_iff, implies_true]
    tauto
  | some x =>
    simp only [decide_eq_true_eq, Option.some.injEq, forall_eq']
    tauto

end Sys2Proof.Machine

/-!
PROOFS. Chapter 10: the checks of LOAD TABLE in their order (R171).
-/

namespace Sys2Proof.Machine

/-! ## The entries of a load -/

theorem chunks_flatten {size : Nat} : {bs : List (List Byte)} → (∀ b ∈ bs, b.length = size) →
    chunks size bs.length bs.flatten = bs
  | [], _ => rfl
  | b :: bs, sizes => by
    have first : b.length = size := sizes b List.mem_cons_self
    rw [List.flatten_cons, List.length_cons, chunks, List.take_left' first, List.drop_left' first,
      chunks_flatten fun x mem => sizes x (List.mem_cons_of_mem _ mem)]

section ParseAll

variable {α : Type} {f : List Byte → Option α}

theorem parseAll_of_forall₂ {bs : List (List Byte)} {l : List α} (each : List.Forall₂ (fun b x => f b = some x) bs l) :
    ∀ i, parseAll f i bs = .ok l := by
  induction each with
  | nil => exact fun _ => rfl
  | cons here _ ih => exact fun i => by simp only [parseAll, here, ih]

theorem parseAll_of_bad {pre post : List (List Byte)} {b : List Byte} (good : ∀ x ∈ pre, ∃ y, f x = some y)
    (bad : f b = none) : ∀ i, parseAll f i (pre ++ b :: post) = .error (i + pre.length) := by
  induction pre with
  | nil => exact fun i => by simp [parseAll, bad]
  | cons x pre ih =>
    intro i
    obtain ⟨y, here⟩ := good x List.mem_cons_self
    simp only [List.cons_append, parseAll, here, ih fun z mem => good z (List.mem_cons_of_mem _ mem), List.length_cons]
    rw [Nat.add_assoc, Nat.add_comm 1]

end ParseAll

/-! ## Count and payload -/

/-- A load of entries of the table's size passes check 1 but for the spacing lists. -/
theorem State.checkLoad_entries (s : State) {id : Byte} (first : Byte) {bs : List (List Byte)} (known : id.toNat ≤ 4)
    (least : 1 ≤ bs.length) (most : bs.length ≤ 255) (sizes : ∀ b ∈ bs, b.length = entrySize id.toNat) :
    s.checkLoad ([id, first, BitVec.ofNat 8 bs.length] ++ bs.flatten) =
      if id.toNat = 3 ∧ bs.all spacingListOk = false then .badLength
      else if tableEntries id.toNat < first.toNat + bs.length ∨ ((id.toNat = 0 ∨ id.toNat = 2) ∧ first.toNat ≠ 0) then .range 0
      else s.checkEntries id.toNat first.toNat bs := by
  have count : (BitVec.ofNat 8 bs.length : Byte).toNat = bs.length :=
    (BitVec.toNat_ofNat ..).trans (Nat.mod_eq_of_lt (by omega))
  have length : bs.flatten.length = bs.length * entrySize id.toNat := by
    rw [List.length_flatten, List.map_congr_left sizes]
    simp
  unfold State.checkLoad
  have argId : u8 ([id, first, BitVec.ofNat 8 bs.length] ++ bs.flatten) 0 = id.toNat := rfl
  have argFirst : u8 ([id, first, BitVec.ofNat 8 bs.length] ++ bs.flatten) 1 = first.toNat := rfl
  have argCount : u8 ([id, first, BitVec.ofNat 8 bs.length] ++ bs.flatten) 2 = bs.length := count
  have payload : ([id, first, BitVec.ofNat 8 bs.length] ++ bs.flatten).drop 3 = bs.flatten := rfl
  have size : ([id, first, BitVec.ofNat 8 bs.length] ++ bs.flatten).length = 3 + bs.length * entrySize id.toNat := by
    simp only [List.length_append, List.length_cons, List.length_nil, length]
  dsimp only
  rw [argId, argFirst, argCount, payload, chunks_flatten sizes, size]
  refine (if_congr ?_ rfl (if_congr ?_ rfl rfl))
  · have positive : bs.length ≠ 0 := by omega
    simp [positive]
  · simp [Nat.not_lt.2 known]

/-- A load of a run inside its table, of a single record at 0, goes to checks 3 and 4. -/
theorem State.checkLoad_inside (s : State) {id : Byte} (first : Byte) {bs : List (List Byte)} (known : id.toNat ≤ 4)
    (least : 1 ≤ bs.length) (most : bs.length ≤ 255) (sizes : ∀ b ∈ bs, b.length = entrySize id.toNat)
    (spaced : id.toNat = 3 → ∀ b ∈ bs, spacingListOk b = true) (run : first.toNat + bs.length ≤ tableEntries id.toNat)
    (single : id.toNat = 0 ∨ id.toNat = 2 → first.toNat = 0) :
    s.checkLoad ([id, first, BitVec.ofNat 8 bs.length] ++ bs.flatten) = s.checkEntries id.toNat first.toNat bs := by
  rw [s.checkLoad_entries first known least most sizes, if_neg, if_neg]
  · rintro (beyond | ⟨record, off⟩)
    · omega
    · exact off (single record)
  · rintro ⟨patterns, unspaced⟩
    rw [List.all_eq_true.2 (spaced patterns)] at unspaced
    exact nomatch unspaced

/-! ## Checks 3 and 4 -/

theorem spacingListOk_iff (b : List Byte) : spacingListOk b = true ↔
    (u8 b 0 = 1 → u8 b 2 ≤ 8 ∧ ∀ i, i < 7 → (u16 b (8 + 2 * i) = 0 ↔ u8 b 2 - 1 ≤ i)) := by
  have first (n : Nat) : ((spacingSlots b).take n).all (· ≠ 0) = true ↔ ∀ i, i < 7 → i < n → u16 b (8 + 2 * i) ≠ 0 := by
    rw [spacingSlots_eq, ← List.map_take, List.take_range]
    simp only [List.all_map, List.all_eq_true, List.mem_range, lt_min_iff, Function.comp_apply, decide_eq_true_eq]
    exact ⟨fun all i low below => all i ⟨below, low⟩, fun all i both => all i both.2 both.1⟩
  have rest (n : Nat) : ((spacingSlots b).drop n).all (· = 0) = true ↔ ∀ i, i < 7 → n ≤ i → u16 b (8 + 2 * i) = 0 := by
    rw [spacingSlots_eq, ← List.map_drop, List.range_eq_range', List.drop_range']
    simp only [List.all_map, List.all_eq_true, List.mem_range'_1, Function.comp_apply, decide_eq_true_eq]
    exact ⟨fun all i low above => all i ⟨by omega, by omega⟩, fun all i both => all i (by omega) (by omega)⟩
  unfold spacingListOk
  simp only [Bool.or_eq_true, Bool.and_eq_true, decide_eq_true_eq, first, rest, ← imp_iff_not_or, ne_eq, and_assoc]
  refine imp_congr_right fun _ => and_congr_right fun _ => ⟨fun ⟨set, clear⟩ i low => ?_, fun each => ⟨fun i low below => ?_,
    fun i low above => (each i low).2 above⟩⟩
  · exact ⟨fun zero => Nat.not_lt.1 fun below => set i low below zero, clear i low⟩
  · exact fun zero => Nat.not_le.2 below ((each i low).1 zero)

theorem State.checkEntries_site (s : State) (first : Nat) (b : List Byte) : s.checkEntries 0 first [b] =
    ((parseSite b).filter (·.crossOk)).elim (.range 0) fun c => .ok (.site c) := by
  simp only [State.checkEntries, parseAll]
  cases parseSite b with
  | none => rfl
  | some c => cases crossed : c.crossOk <;> simp [Option.filter, crossed]

theorem State.checkEntries_channels (s : State) {first : Nat} {bs : List (List Byte)} {l : List (Entry Channel)}
    (read : parseAll (parseEntry parseChannel) first bs = .ok l) : s.checkEntries 1 first bs =
      (allChannels.find? (channelInvolved (s.overlay first l))).elim (.ok (.channels first l)) fun i => .range i.val := by
  simp only [State.checkEntries, read]
  cases allChannels.find? (channelInvolved (s.overlay first l)) <;> rfl

theorem State.checkEntries_bad_channel (s : State) {first i : Nat} {bs : List (List Byte)}
    (read : parseAll (parseEntry parseChannel) first bs = .error i) : s.checkEntries 1 first bs = .range i := by
  simp only [State.checkEntries, read]

theorem State.checkEntries_patterns (s : State) {first : Nat} {bs : List (List Byte)} {l : List (Entry Pattern)}
    (read : parseAll (parseEntry parsePattern) first bs = .ok l) : s.checkEntries 3 first bs = .ok (.patterns first l) := by
  simp only [State.checkEntries, read]

theorem State.checkEntries_bad_pattern (s : State) {first i : Nat} {bs : List (List Byte)}
    (read : parseAll (parseEntry parsePattern) first bs = .error i) : s.checkEntries 3 first bs = .range i := by
  simp only [State.checkEntries, read]

theorem State.checkEntries_thresholds (s : State) {first : Nat} {bs : List (List Byte)} {l : List (Entry Threshold)}
    (read : parseAll (parseEntry parseThreshold) first bs = .ok l) :
    s.checkEntries 4 first bs = .ok (.thresholds first l) := by
  simp only [State.checkEntries, read]

theorem State.checkEntries_bad_threshold (s : State) {first i : Nat} {bs : List (List Byte)}
    (read : parseAll (parseEntry parseThreshold) first bs = .error i) : s.checkEntries 4 first bs = .range i := by
  simp only [State.checkEntries, read]

theorem State.overlay_eq (s : State) (first : Nat) (l : List (Entry Channel)) (i : ChanIdx) : s.overlay first l i =
    if first ≤ i.val then
      (l[i.val - first]?).getD ((s.tables.pending.channels[i]).getD s.tables.active.channels[i])
    else (s.tables.pending.channels[i]).getD s.tables.active.channels[i] := by
  unfold State.overlay
  cases l[i.val - first]? <;> rfl

theorem Channel.conflicts_iff (e f : Channel) : e.conflicts f = true ↔
    (e.node = f.node ∧ e.channel = f.channel) ∨
      (e.kind = f.kind ∧ (e.kind = .ambient ∨ e.rail = f.rail ∧ (e.kind = .bearing ∨ e.bay = f.bay))) := by
  simp only [Channel.conflicts, decide_eq_true_eq]
  refine or_congr Iff.rfl ?_
  cases e.kind <;> cases f.kind <;> simp

theorem Entry.valid?_eq_some_iff {α : Type} {e : Entry α} {x : α} : e.valid? = some x ↔ e = .valid x := by
  cases e <;> simp [Entry.valid?]

theorem channelInvolved_iff (view : ChanIdx → Entry Channel) (i : ChanIdx) : channelInvolved view i = true ↔
    ∃ e, view i = .valid e ∧ ((e.kind ≠ .load ∧ 3 < e.channel) ∨ ∃ j f, j ≠ i ∧ view j = .valid f ∧
      ((e.node = f.node ∧ e.channel = f.channel) ∨
        (e.kind = f.kind ∧ (e.kind = .ambient ∨ e.rail = f.rail ∧ (e.kind = .bearing ∨ e.bay = f.bay))))) := by
  simp only [← Channel.conflicts_iff, ← Entry.valid?_eq_some_iff]
  unfold channelInvolved
  cases (view i).valid? with
  | none => simp
  | some e =>
    simp only [Bool.or_eq_true, decide_eq_true_eq, List.any_eq_true, Bool.and_eq_true, Option.some.injEq, exists_eq_left']
    refine or_congr Iff.rfl (exists_congr fun j => ?_)
    have listed : j ∈ allChannels := List.mem_finRange j
    cases (view j).valid? <;> simp [listed]

/-- The lowest index involved in a failed check. -/
theorem find?_allChannels_eq {p : ChanIdx → Bool} {i : ChanIdx} (here : p i = true) (before : ∀ j, j < i → p j = false) :
    allChannels.find? p = some i := by
  rw [allChannels, List.find?_eq_some_iff_getElem]
  refine ⟨here, i.val, by simp, by simp, fun j lower => ?_⟩
  simpa using before ⟨j, by omega⟩ lower

/-! ## The entries of a load against their bytes -/

/-- What a load may carry as an entry: a not valid one as its bytes, a valid one as `ok` reads them. -/
def ReadAs {α : Type} (ok : List Byte → α → Prop) (b : List Byte) (e : Entry α) : Prop :=
  (u8 b 0 = 0 ∧ e = .notValid b) ∨ (u8 b 0 = 1 ∧ ∃ x, e = .valid x ∧ ok b x)

section Entries

variable {α : Type} {f : List Byte → Option α} {ok : List Byte → α → Prop} (reads : ∀ b x, f b = some x ↔ ok b x)
include reads

theorem parseEntry_iff_readAs (b : List Byte) (e : Entry α) : parseEntry f b = some e ↔ ReadAs ok b e := by
  simp only [parseEntry_eq_some_iff, reads, ReadAs]

theorem parseAll_entries {bs : List (List Byte)} {l : List (Entry α)} (length : l.length = bs.length)
    (each : ∀ (i : Nat) (b : List Byte) (e : Entry α), bs[i]? = some b → l[i]? = some e → ReadAs ok b e) (i : Nat) :
    parseAll (parseEntry f) i bs = .ok l := by
  refine parseAll_of_forall₂ (List.forall₂_iff_get.2 ⟨length.symm, fun j inB inL => ?_⟩) i
  exact (parseEntry_iff_readAs reads _ _).2
    (each j _ _ (List.getElem?_eq_getElem inB) (List.getElem?_eq_getElem inL))

theorem parseAll_bad_entry {pre post : List (List Byte)} {b : List Byte} (good : ∀ x ∈ pre, ∃ e, ReadAs ok x e)
    (bad : ∀ e, ¬ ReadAs ok b e) (i : Nat) :
    parseAll (parseEntry f) i (pre ++ b :: post) = .error (i + pre.length) := by
  refine parseAll_of_bad (fun x mem => ?_) (Option.eq_none_iff_forall_ne_some.2 fun e read => ?_) i
  · obtain ⟨e, here⟩ := good x mem
    exact ⟨e, (parseEntry_iff_readAs reads x e).2 here⟩
  · exact bad e ((parseEntry_iff_readAs reads b e).1 read)

end Entries

theorem entrySize_eq {n : Nat} (known : n ≤ 4) : [70, 12, 6, 22, 20].getD n 0 = entrySize n := by
  match n, known with
  | 0, _ | 1, _ | 2, _ | 3, _ | 4, _ => rfl

theorem tableEntries_eq {n : Nat} (known : n ≤ 4) : [1, 24, 1, 64, 16].getD n 0 = tableEntries n := by
  match n, known with
  | 0, _ | 1, _ | 2, _ | 3, _ | 4, _ => rfl

/-- Settles O60: the checks in their order; each table's entries by what their bytes are read as. -/
theorem tableLoadsAreChecked : Obligations.TableLoadsAreChecked := by
  intro s v w place ranges size count load spaced entry entries site channel pattern threshold
  have words : w = u16 := by
    funext b i
    exact (u16_eq b i).symm
  clear_value w
  subst words
  have sizeOf {id : Byte} (known : id.toNat ≤ 4) : size id = entrySize id.toNat := entrySize_eq known
  have countOf {id : Byte} (known : id.toNat ≤ 4) : count id = tableEntries id.toNat := tableEntries_eq known
  have spacedIff (b : List Byte) : spacingListOk b = true ↔ spaced b := spacingListOk_iff b
  have sites (b : List Byte) (c : SiteConstants) : (parseSite b).filter (·.crossOk) = some c ↔ site b c := by
    rw [Option.filter_eq_some_iff, parseSite_eq_some_iff, and_assoc, c.sound_iff]
    simp only [gateActionOf_eq, g3SourceOf_eq, boolOf_eq, and_assoc]
    rfl
  have channels : ∀ b e, parseChannel b = some e ↔ channel b e := fun b e => parseChannel_eq_some_iff
  have patterns : ∀ b p, parsePattern b = some p ↔ pattern b p := fun b p => parsePattern_eq_some_iff
  have thresholds : ∀ b t, parseThreshold b = some t ↔ threshold b t := fun b t => parseThreshold_eq_some_iff
  have toChannels (first : Byte) (bs : List (List Byte)) (least : 1 ≤ bs.length) (run : first.toNat + bs.length ≤ 24)
      (sizes : ∀ b ∈ bs, b.length = 12) : s.checkLoad (load 1 first bs) = s.checkEntries 1 first.toNat bs :=
    s.checkLoad_inside (id := 1) first (by decide) least (by omega) sizes (fun other => absurd other (by decide)) run
      fun other => absurd other (by decide)
  have toPatterns (first : Byte) (bs : List (List Byte)) (least : 1 ≤ bs.length) (run : first.toNat + bs.length ≤ 64)
      (sizes : ∀ b ∈ bs, b.length = 22) (fits : ∀ b ∈ bs, spaced b) :
      s.checkLoad (load 3 first bs) = s.checkEntries 3 first.toNat bs :=
    s.checkLoad_inside (id := 3) first (by decide) least (by omega) sizes (fun _ b mem => (spacedIff b).2 (fits b mem)) run
      fun other => absurd other (by decide)
  have toThresholds (first : Byte) (bs : List (List Byte)) (least : 1 ≤ bs.length) (run : first.toNat + bs.length ≤ 16)
      (sizes : ∀ b ∈ bs, b.length = 20) : s.checkLoad (load 4 first bs) = s.checkEntries 4 first.toNat bs :=
    s.checkLoad_inside (id := 4) first (by decide) least (by omega) sizes (fun other => absurd other (by decide)) run
      fun other => absurd other (by decide)
  have zero {b : Byte} : b.toNat = 0 ↔ b = 0 := by rw [← BitVec.toNat_inj]; rfl
  refine ⟨fun l short => if_pos (.inl short), fun id first n l known wrong => ?_, fun id first n l unknown some => ?_,
    fun id first bs known least most sizes => ⟨fun isPattern unspaced => ?_, fun fits beyond => ?_⟩,
    fun b length => ?_, fun first bs least run sizes => ⟨fun l read => ?_, fun pre b post parts good bad => ?_⟩,
    fun first bs least run sizes fits => ⟨fun l read => ?_, fun pre b post parts good bad => ?_⟩,
    fun first bs least run sizes => ⟨fun l read => ?_, fun pre b post parts good bad => ?_⟩⟩
  · refine if_pos ?_
    rcases wrong with none | other
    · exact .inr (.inl (zero.2 none))
    · refine .inr (.inr (.inl ⟨known, fun same => other ?_⟩))
      rw [sizeOf known]
      have same' : l.length + 3 = 3 + n.toNat * entrySize id.toNat := same
      omega
  · have here : ¬ ((id :: first :: n :: l).length < 3 ∨ n.toNat = 0 ∨
        (id.toNat ≤ 4 ∧ (id :: first :: n :: l).length ≠ 3 + n.toNat * entrySize id.toNat) ∨
        (id.toNat = 3 ∧ (chunks (entrySize id.toNat) n.toNat l).all spacingListOk = false)) := by
      have := mt zero.1 some
      simp only [List.length_cons]
      omega
    exact (if_neg here).trans (if_pos (.inl unknown))
  · have isPattern' : id.toNat = 3 := by rw [isPattern]; rfl
    refine (s.checkLoad_entries first known least most fun b mem => (sizes b mem).trans (sizeOf known)).trans
      (if_pos ⟨isPattern', ?_⟩)
    obtain ⟨b, mem, wrong⟩ := unspaced
    exact List.all_eq_false.2 ⟨b, mem, mt (spacedIff b).1 wrong⟩
  · refine (s.checkLoad_entries first known least most fun b mem => (sizes b mem).trans (sizeOf known)).trans
      ((if_neg ?_).trans (if_pos ?_))
    · rintro ⟨isPattern, unspaced⟩
      obtain ⟨b, mem, wrong⟩ := List.all_eq_false.1 unspaced
      exact wrong ((spacedIff b).2 (fits (BitVec.eq_of_toNat_eq isPattern) b mem))
    · rw [countOf known] at beyond
      refine beyond.imp_right fun ⟨record, off⟩ => ⟨record.imp ?_ ?_, mt zero.1 off⟩
      · exact zero.2
      · rintro rfl
        rfl
  · have check : s.checkLoad (load 0 0 [b]) = ((parseSite b).filter (·.crossOk)).elim (.range 0) fun c => .ok (.site c) :=
      (s.checkLoad_inside (id := 0) 0 (bs := [b]) (Nat.zero_le 4) le_rfl (Nat.le_add_left 1 254)
        (fun x mem => List.mem_singleton.1 mem ▸ length) (fun other => absurd other (by decide)) le_rfl
        (fun _ => rfl)).trans (s.checkEntries_site 0 b)
    rw [check]
    refine ⟨fun c => ?_, fun none => ?_⟩
    · rw [← sites]
      cases (parseSite b).filter (·.crossOk) <;> simp
    · rw [Option.eq_none_iff_forall_ne_some.2 fun c here => none c ((sites b c).1 here)]
      rfl
  · intro stands seen involved
    have view : s.overlay first.toNat l = seen := funext fun i => s.overlay_eq first.toNat l i
    have check : s.checkLoad (load 1 first bs) = (allChannels.find? (channelInvolved seen)).elim
        (.ok (.channels first.toNat l)) fun i => .range i.val := by
      rw [← view]
      exact (toChannels first bs least run sizes).trans
        (s.checkEntries_channels (parseAll_entries channels read.1 read.2 _))
    have involvedIff (i : ChanIdx) : channelInvolved seen i = true ↔ involved i := channelInvolved_iff seen i
    rw [check]
    refine ⟨fun none => ?_, fun i here before => ?_⟩
    · rw [List.find?_eq_none.2 fun i _ => mt (involvedIff i).1 (none i)]
      rfl
    · rw [find?_allChannels_eq ((involvedIff i).2 here) fun j lower =>
        Bool.not_eq_true _ ▸ mt (involvedIff j).1 (before j lower)]
      rfl
  · subst parts
    exact (toChannels first _ least run sizes).trans (s.checkEntries_bad_channel (parseAll_bad_entry channels good bad _))
  · exact (toPatterns first bs least run sizes fits).trans
      (s.checkEntries_patterns (parseAll_entries patterns read.1 read.2 _))
  · subst parts
    exact (toPatterns first _ least run sizes fits).trans
      (s.checkEntries_bad_pattern (parseAll_bad_entry patterns good bad _))
  · exact (toThresholds first bs least run sizes).trans
      (s.checkEntries_thresholds (parseAll_entries thresholds read.1 read.2 _))
  · subst parts
    exact (toThresholds first _ least run sizes).trans
      (s.checkEntries_bad_threshold (parseAll_bad_entry thresholds good bad _))

end Sys2Proof.Machine

/-!
PROOFS. Chapter 10: what a load writes, and what step 7 of the close operation applies (R171, R172).
-/

namespace Sys2Proof.Machine

/-! ## A load written to a bank -/

theorem Vec.write_get {α : Type} {n : Nat} (l : List α) : ∀ (v : Vector α n) (i : Nat) (j : Fin n),
    (Vec.write v i l)[j] = if i ≤ j.val then (l[j.val - i]?).getD v[j] else v[j] := by
  induction l with
  | nil => exact fun v i j => by simp [Vec.write]
  | cons x l ih =>
    intro v i j
    rw [Vec.write]
    split
    · next inside =>
      rw [ih, show v.set i x = v.set (⟨i, inside⟩ : Fin n) x from rfl, Vec.getElem_set_fin]
      rcases Nat.lt_trichotomy i j.val with below | same | above
      · have other : (⟨i, inside⟩ : Fin n) ≠ j := fun same => below.ne (congrArg Fin.val same)
        rw [if_pos (Nat.succ_le_of_lt below), if_pos below.le, if_neg other, show j.val - i = (j.val - (i + 1)) + 1 by omega,
          List.getElem?_cons_succ]
      · rw [if_neg (by omega), if_pos (Fin.ext same), if_pos same.le, same, Nat.sub_self]
        rfl
      · have other : (⟨i, inside⟩ : Fin n) ≠ j := fun same => above.ne (congrArg Fin.val same).symm
        rw [if_neg (by omega), if_neg other, if_neg (Nat.not_le.2 above)]
    · rw [if_neg (by omega)]

/-- A run of Channel Table entries written: table, rings, offsets and counts take their entries at the same indices. -/
theorem State.writeChannels_eq (l : List (Entry Channel)) : ∀ (s : State) (i : Nat), s.writeChannels i l = { s with
    tables.active.channels := Vec.write s.tables.active.channels i l
    tables.pending.channels := Vec.write s.tables.pending.channels i (l.map fun _ => none)
    rings := Vec.write s.rings i (l.map fun _ => [])
    load.zero := Vec.write s.load.zero i (l.map freshZero)
    port.decimation := Vec.write s.port.decimation i (l.map fun _ => 0) } := by
  induction l with
  | nil => exact fun _ _ => rfl
  | cons e l ih =>
    intro s i
    simp only [State.writeChannels, List.map_cons, Vec.write]
    split
    · rw [ih]
      rfl
    · rfl

theorem State.writeActive_commands (s : State) (rest : List Command) (l : TableLoad) :
    ({ s with port.commands := rest } : State).writeActive l =
      { s.writeActive l with port.commands := rest } := by
  cases l with
  | site c =>
    simp only [State.writeActive, State.activateSite]
    split <;> rfl
  | channels first l =>
    simp only [State.writeActive, State.writeChannels_eq]
  | bands b => rfl
  | patterns first l => rfl
  | thresholds first l => rfl

/-- Written entries by their indices: a list at its own, and no other. -/
theorem Vec.write_written {α : Type} {n : Nat} (v : Vector α n) (first : Nat) (l : List α) (j : Fin n) :
    (∀ e, first ≤ j.val → l[j.val - first]? = some e → (Vec.write v first l)[j] = e) ∧
    (j.val < first ∨ first + l.length ≤ j.val → (Vec.write v first l)[j] = v[j]) := by
  rw [Vec.write_get]
  refine ⟨fun e past here => by rw [if_pos past, here, Option.getD_some], fun outside => ?_⟩
  split
  · rw [List.getElem?_eq_none (by omega), Option.getD_none]
  · rfl

/-! ## Step 7 of the close operation (R172) -/

/-- A state with what belongs to the Channel Table's indices replaced. -/
def State.withChannels (s : State) (active : Vector (Entry Channel) 24) (rings : Vector (List Sample) 24)
    (zero : Vector (Option ZeroTrack) 24) (decimation : Vector Nat 24) : State :=
  { s with
    tables.active.channels := active
    rings := rings
    load.zero := zero
    port.decimation := decimation }

/-- The pending Channel Table entries of a list of indices applied, index by index. -/
theorem State.applyChannels_eq (l : List ChanIdx) : ∀ s : State, s.applyChannels l = s.withChannels
    (Vector.ofFn fun i =>
      if i ∈ l then (s.tables.pending.channels[i]).getD s.tables.active.channels[i] else s.tables.active.channels[i])
    (Vector.ofFn fun i => if i ∈ l ∧ s.tables.pending.channels[i] ≠ none then [] else s.rings[i])
    (Vector.ofFn fun i =>
      if i ∈ l then (s.tables.pending.channels[i]).elim s.load.zero[i] freshZero else s.load.zero[i])
    (Vector.ofFn fun i => if i ∈ l ∧ s.tables.pending.channels[i] ≠ none then 0 else s.port.decimation[i]) := by
  induction l with
  | nil =>
    intro s
    simp [State.applyChannels, State.withChannels]
  | cons i l ih =>
    intro s
    simp only [State.applyChannels]
    cases pending : s.tables.pending.channels[i] with
    | none =>
      simp only
      rw [ih]
      congr 2 <;> (funext j; by_cases same : j = i)
      all_goals simp [*]
    | some e =>
      simp only
      rw [ih]
      show s.withChannels _ _ _ _ = _
      congr 2 <;> (funext j; by_cases same : j = i)
      all_goals simp [State.activateChannel, Vec.getElem_set_fin, Ne.symm, -Fin.getElem_fin, *]

theorem State.applySite_eq (s : State) : s.applySite = { s with
    tables.active.site := s.tables.pending.site.or s.tables.active.site, session := s.applySite.session } := by
  unfold State.applySite State.activateSite
  cases pending : s.tables.pending.site with
  | none => rfl
  | some c =>
    dsimp only
    split <;> rfl

/-- What step 7 leaves of the state, apart from the session. -/
theorem State.applyPending_eq (s : State) : ∃ rings zero decimation, s.applyPending = { s with
      session := s.applySite.session
      tables.active :=
        { site := s.tables.pending.site.or s.tables.active.site
          channels := overlayBank s.tables.active.channels s.tables.pending.channels
          bands := s.tables.pending.bands.getD s.tables.active.bands
          patterns := overlayBank s.tables.active.patterns s.tables.pending.patterns
          thresholds := overlayBank s.tables.active.thresholds s.tables.pending.thresholds }
      tables.pending := {}
      rings := rings
      load.zero := zero
      port.decimation := decimation } ∧
    ∀ i : ChanIdx,
      rings[i] = (if s.tables.pending.channels[i] = none then s.rings[i] else []) ∧
      zero[i] = (s.tables.pending.channels[i]).elim s.load.zero[i] freshZero ∧
      decimation[i] = (if s.tables.pending.channels[i] = none then s.port.decimation[i] else 0) := by
  have base : s.applyPending = { s.applySite.applyChannels allChannels with
    tables.active.bands := (s.applySite.applyChannels allChannels).tables.pending.bands.getD
      (s.applySite.applyChannels allChannels).tables.active.bands
    tables.active.patterns := overlayBank (s.applySite.applyChannels allChannels).tables.active.patterns
      (s.applySite.applyChannels allChannels).tables.pending.patterns
    tables.active.thresholds := overlayBank (s.applySite.applyChannels allChannels).tables.active.thresholds
      (s.applySite.applyChannels allChannels).tables.pending.thresholds
    tables.pending := {} } := rfl
  have all (i : ChanIdx) : i ∈ allChannels := List.mem_finRange i
  rw [base, State.applyChannels_eq, State.applySite_eq]
  simp only [all, if_true, true_and, State.withChannels]
  refine ⟨_, _, _, rfl, fun i => ⟨(Vector.getElem_ofFn i.isLt).trans ?_, Vector.getElem_ofFn i.isLt,
    (Vector.getElem_ofFn i.isLt).trans ?_⟩⟩
  · exact ite_not ..
  · exact ite_not ..

theorem overlayBank_get {α : Type} {n : Nat} (active : Vector α n) (pending : Vector (Option α) n) (i : Fin n) :
    (overlayBank active pending)[i] = (pending[i]).getD active[i] := by
  simp [overlayBank]

theorem freshZero_eq (e : Entry Channel) : freshZero e = match e with
    | .valid c => if c.kind = .load then some { offset := c.offset } else none
    | _ => none := by
  cases e <;> rfl

end Sys2Proof.Machine

/-!
PROOFS. Chapter 10: the entries READ TABLE sends, with the free bytes of those never loaded (R173).
-/

namespace Sys2Proof.Machine

/-! ## Free values drawn -/

/-- A state that remembers `n` more free values drawn. -/
def State.drawn (s : State) (n : Nat) : State := { s with freeCount := s.freeCount + n }

theorem State.drawn_drawn (s : State) (m n : Nat) : (s.drawn m).drawn n = s.drawn (m + n) := by
  simp only [State.drawn, Nat.add_assoc]

theorem State.drawBytes_eq (n : Nat) : ∀ s : State, ∃ l, l.length = n ∧ s.drawBytes n = (l, s.drawn n) := by
  induction n with
  | zero => exact fun s => ⟨[], rfl, rfl⟩
  | succ n ih =>
    intro s
    obtain ⟨l, length, rest⟩ := ih s.drawByte.2
    refine ⟨s.drawByte.1 :: l, by rw [List.length_cons, length], ?_⟩
    rw [State.drawBytes, rest]
    refine Prod.ext rfl ?_
    rw [Nat.add_comm]
    exact s.drawn_drawn 1 n

/-! ## Entries as sent -/

/-- The bytes an entry is sent as: those of a valid one, the raw ones of a not valid one, free ones after a valid byte of 0
for one never loaded. -/
def SentAs {α : Type} (size : Nat) (f : α → List Byte) (e : Entry α) (l : List Byte) : Prop :=
  match e with
  | .neverLoaded => l.length = size ∧ l.head? = some 0
  | .notValid raw => l = raw
  | .valid x => l = f x

/-- Whether an entry was never loaded. -/
def isNever {α : Type} (e : Entry α) : Bool :=
  match e with
  | .neverLoaded => true
  | .notValid _ | .valid _ => false

section Runs

variable {α : Type} {size : Nat} {f : α → List Byte} (positive : 1 ≤ size)
include positive

theorem State.entryBytes_eq (s : State) (e : Entry α) : ∃ l, SentAs size f e l ∧
    s.entryBytes size f e = (l, s.drawn ((size - 1) * ([e].filter isNever).length)) := by
  cases e with
  | neverLoaded =>
    obtain ⟨l, length, rest⟩ := s.drawBytes_eq (size - 1)
    refine ⟨0 :: l, ⟨?_, rfl⟩, ?_⟩
    · rw [List.length_cons, length]
      omega
    · rw [State.entryBytes, rest]
      exact Prod.ext rfl (congrArg s.drawn (Nat.mul_one _).symm)
  | notValid raw => exact ⟨raw, rfl, rfl⟩
  | valid x => exact ⟨f x, rfl, rfl⟩

theorem State.activeRun_eq (l : List (Entry α)) : ∀ s : State, ∃ parts : List (List Byte),
    List.Forall₂ (SentAs size f) l parts ∧
    s.activeRun size f l = (parts.flatten, s.drawn ((size - 1) * (l.filter isNever).length)) := by
  induction l with
  | nil => exact fun s => ⟨[], .nil, rfl⟩
  | cons e l ih =>
    intro s
    obtain ⟨first, sent, here⟩ := s.entryBytes_eq (f := f) positive e
    obtain ⟨parts, each, rest⟩ := ih (s.drawn ((size - 1) * ([e].filter isNever).length))
    refine ⟨first :: parts, .cons sent each, ?_⟩
    simp only [State.activeRun, here, rest, State.drawn_drawn, List.flatten_cons]
    rw [← Nat.mul_add, ← List.length_append, ← List.filter_append, List.singleton_append]

/-- A run of the pending bank: an entry with its presence byte, an index without one as 0. -/
theorem State.pendingRun_eq (l : List (Option (Entry α))) : ∀ s : State, ∃ parts : List (List Byte),
    List.Forall₂ (fun e l => match e with
      | none => l = [0]
      | some e => ∃ l', l = 1 :: l' ∧ SentAs size f e l') l parts ∧
    s.pendingRun size f l = (parts.flatten, s.drawn ((size - 1) * (l.filter fun e => e.any isNever).length)) := by
  induction l with
  | nil => exact fun s => ⟨[], .nil, rfl⟩
  | cons e l ih =>
    intro s
    cases e with
    | none =>
      obtain ⟨parts, each, rest⟩ := ih s
      refine ⟨[0] :: parts, .cons rfl each, ?_⟩
      simp only [State.pendingRun, rest, List.flatten_cons]
      rfl
    | some e =>
      obtain ⟨first, sent, here⟩ := s.entryBytes_eq (f := f) positive e
      obtain ⟨parts, each, rest⟩ := ih (s.drawn ((size - 1) * ([e].filter isNever).length))
      refine ⟨(1 :: first) :: parts, .cons ⟨first, rfl, sent⟩ each, ?_⟩
      simp only [State.pendingRun, here, rest, State.drawn_drawn, List.flatten_cons]
      have own : ([e].filter isNever).length = ([some e].filter fun e => e.any isNever).length := by
        cases never : isNever e <;> simp [never]
      rw [← Nat.mul_add, own, ← List.length_append, ← List.filter_append, List.singleton_append]
      rfl

end Runs

/-! ## The row READ_TABLE -/

theorem serveReadTable_of_ok {t : State} {tag id first n bank : Byte} {results : List Byte} {drawn : Nat}
    (ok : readTableOk id.toNat first.toNat n.toNat bank.toNat = true)
    (read : t.readEntries id.toNat first.toNat n.toNat (decide (bank.toNat = 1)) = (results, t.drawn drawn)) :
    State.serveReadTable ⟨tag, [0x02, id, first, n, bank]⟩ t =
      (t.drawn drawn).answer ⟨tag, [0x02, id, first, n, bank]⟩ .ok results := by
  refine (if_pos ok).trans ?_
  show (t.readEntries id.toNat first.toNat n.toNat (decide (bank.toNat = 1))).2.answer _ .ok
    (t.readEntries id.toNat first.toNat n.toNat (decide (bank.toNat = 1))).1 = _
  rw [read]

theorem readTableOk_eq_false {id first n bank : Byte} (bad : 4 < id.toNat ∨ n = 0 ∨ (id = 3 ∧ 32 < n.toNat) ∨
    1 < bank.toNat ∨ [1, 24, 1, 64, 16].getD id.toNat 0 < first.toNat + n.toNat) :
    readTableOk id.toNat first.toNat n.toNat bank.toNat = false := by
  refine decide_eq_false fun ⟨known, least, patterns, run, banks⟩ => ?_
  rw [tableEntries_eq known] at bad
  rcases bad with h | h | ⟨h, many⟩ | h | h
  · omega
  · exact least (h ▸ rfl)
  · exact absurd (patterns (h ▸ rfl)) (by omega)
  · omega
  · omega

/-! ## The layouts of Tables 11.7 and 11.8 -/

theorem gates_bytes (l : List GateAction) : (l.flatMap fun g => le1 g.code) = l.map fun g => BitVec.ofNat 8 g.code :=
  List.map_eq_flatMap.symm

end Sys2Proof.Machine

/-!
PROOFS. Chapter 10: the commands to the table store and the queries.
-/

namespace Sys2Proof.Machine

theorem execLoadTable_serves {s : State} (dt : Time) {tag : Byte} {args : List Byte} {rest : List Command}
    (front : s.port.commands = ⟨tag, 0x01 :: args⟩ :: rest) (room : s.replyRoom = true) :
    exec (.loadTable dt) s =
      .next (State.serveLoadTable ⟨tag, 0x01 :: args⟩ { s.advance dt with port.commands := rest }) :=
  congrArg _ (State.serve_advance dt _ front room rfl)

/-- The answer of LOAD TABLE by the verdict of its checks. -/
theorem serveLoadTable_of_badLength {t : State} {c : Command} (check : t.checkLoad c.args = .badLength) :
    State.serveLoadTable c t = t.answer c .badLength [] := by
  simp only [State.serveLoadTable, check]

theorem serveLoadTable_of_range {t : State} {c : Command} {i : Nat} (check : t.checkLoad c.args = .range i) :
    State.serveLoadTable c t = t.answerRange c i := by
  simp only [State.serveLoadTable, check]

theorem serveLoadTable_of_ok {t : State} {c : Command} {l : TableLoad} (check : t.checkLoad c.args = .ok l) :
    State.serveLoadTable c t = if t.sessionOpen = true then (t.writePending l).answer c .ok [1]
      else (t.writeActive l).answer c .ok [0] := by
  simp only [State.serveLoadTable, check]
  rfl

theorem State.checkLoad_bands (s : State) (a0 a1 b0 b1 c0 c1 : Byte) :
    s.checkLoad [2, 0, 1, a0, a1, b0, b1, c0, c1] =
      if 10 ≤ a0.toNat + 256 * a1.toNat ∧ a0.toNat + 256 * a1.toNat < b0.toNat + 256 * b1.toNat ∧
          b0.toNat + 256 * b1.toNat < c0.toNat + 256 * c1.toNat ∧ c0.toNat + 256 * c1.toNat ≤ 2000 then
        .ok (.bands ⟨a0.toNat + 256 * a1.toNat, b0.toNat + 256 * b1.toNat, c0.toNat + 256 * c1.toNat⟩)
      else .range 0 := by
  have check : s.checkLoad [2, 0, 1, a0, a1, b0, b1, c0, c1] = s.checkEntries 2 0 [[a0, a1, b0, b1, c0, c1]] :=
    s.checkLoad_inside (id := 2) 0 (bs := [[a0, a1, b0, b1, c0, c1]]) (by decide) le_rfl (Nat.le_add_left 1 254)
      (fun b mem => List.mem_singleton.1 mem ▸ rfl) (fun other => absurd other (by decide)) le_rfl (fun _ => rfl)
  have first : u16 [a0, a1, b0, b1, c0, c1] 0 = a0.toNat + 256 * a1.toNat := u16_cons ..
  have second : u16 [a0, a1, b0, b1, c0, c1] 2 = b0.toNat + 256 * b1.toNat := u16_at_two ..
  have third : u16 [a0, a1, b0, b1, c0, c1] 4 = c0.toNat + 256 * c1.toNat := u16_at_four ..
  rw [check]
  generalize a0.toNat + 256 * a1.toNat = a at *
  generalize b0.toNat + 256 * b1.toNat = b at *
  generalize c0.toNat + 256 * c1.toNat = c at *
  have limits : (within 10 2000 a && within 10 2000 b && within 10 2000 c) = true ↔
      (10 ≤ a ∧ a ≤ 2000) ∧ (10 ≤ b ∧ b ≤ 2000) ∧ (10 ≤ c ∧ c ≤ 2000) := by simp [within, and_assoc]
  simp only [State.checkEntries, parseAll, parseBands, first, second, third]
  by_cases inside : (within 10 2000 a && within 10 2000 b && within 10 2000 c) = true
  · have bounds := limits.1 inside
    rw [if_pos inside]
    refine if_congr ?_ rfl rfl
    dsimp only
    omega
  · have bounds := mt limits.2 inside
    rw [if_neg inside, if_neg (by omega)]

theorem State.applySite_session_of_ready {s : State} (ready : s.session.state ≠ .notReady) :
    s.applySite.session = s.session := by
  unfold State.applySite State.activateSite
  cases s.tables.pending.site with
  | none => rfl
  | some c =>
    dsimp only
    rw [if_neg ready]

/-! ## DESCRIBE (R174) -/

theorem describeBytes_table {n : Nat} {entries size : Byte}
    (listed : ([(1, 70), (24, 12), (1, 6), (64, 22), (16, 20)] : List (Byte × Byte))[n]? = some (entries, size)) :
    describeBytes 3 n = [entries, 0, size, 0] := by
  match n, listed with
  | 0, listed | 1, listed | 2, listed | 3, listed | 4, listed =>
    obtain ⟨rfl, rfl⟩ := Prod.mk.inj (Option.some.inj listed)
    rfl

theorem describeBytes_other {leaf sub : Nat} (other : 3 < leaf ∨ (leaf = 3 ∧ 4 < sub)) :
    describeBytes leaf sub = [0, 0, 0, 0] := by
  rcases other with high | ⟨rfl, high⟩
  · match leaf, high with
    | _ + 4, _ => rfl
  · match sub, high with
    | _ + 5, _ => simp [describeBytes, tableEntries, entrySize, le2]

/-- Settles O58: LOAD TABLE by its verdict, READ TABLE by runs of entries, the queries item by item, then what a load
writes and what step 7 applies. -/
theorem tablesAndQueriesAnswer : Obligations.TablesAndQueriesAnswer := by
  refine ⟨fun s dt tag rest room => ?_, fun s c => ?_, fun s first l fits => ?_, fun s first => ?_, fun s => ?_⟩
  · intro u
    refine ⟨fun args front => ?_, fun a0 a1 b0 b1 c0 c1 => s.checkLoad_bands .., fun id first n bank front => ?_,
      fun leaf sub front => ?_, fun front => ?_, fun args some front => ?_⟩
    · rw [execLoadTable_serves dt front room]
      refine ⟨fun check => congrArg _ (serveLoadTable_of_badLength check),
        fun i check => congrArg _ (serveLoadTable_of_range check), fun load check => ?_⟩
      have served := serveLoadTable_of_ok (t := { s.advance dt with port.commands := rest }) (c := ⟨tag, 0x01 :: args⟩) check
      refine ⟨fun opened => congrArg _ (served.trans ((if_pos opened).trans ?_)), fun closed =>
        congrArg _ (served.trans ((if_neg (Bool.eq_false_iff.1 closed)).trans ?_))⟩
      · cases load <;> rfl
      · rw [State.writeActive_commands]
        rfl
    · intro b w signed place item site channel pattern threshold range never sent answer entries
      let t : State := { s.advance dt with port.commands := rest }
      have row : exec (.readTable dt) s = .next (State.serveReadTable ⟨tag, [0x02, id, first, n, bank]⟩ t) :=
        congrArg _ (State.serve_advance dt _ front room rfl)
      have answered {results : List Byte} {drawn : Nat}
          (ok : readTableOk id.toNat first.toNat n.toNat bank.toNat = true)
          (read : t.readEntries id.toNat first.toNat n.toNat (decide (bank.toNat = 1)) = (results, t.drawn drawn)) :
          answer results drawn :=
        row.trans (congrArg _ (serveReadTable_of_ok ok read))
      have items {α : Type} (f : α → List Byte) (o : Option α) : optional f o = item (o.map f) := by cases o <;> rfl
      have sites : SiteConstants.bytes = site := funext fun c => by
        have gates : (c.gates.toList.flatMap fun g => le1 g.code) = c.gates.toList.map fun g : GateAction => match g with
            | .forcedLow => (0 : Byte) | .activeLow => 1 | .activeHigh => 2 | .forcedHigh => 3 :=
          (gates_bytes _).trans (List.map_congr_left fun g _ => by cases g <;> rfl)
        unfold SiteConstants.bytes
        rw [gates, yes_eq]
        simp only [site]
        cases c.g3 <;> rfl
      have channels : Channel.bytes = channel := funext fun e => by
        simp only [Channel.bytes, channel]
        cases e.kind <;> cases e.forward <;> rfl
      have run {α : Type} {size : Nat} {f : α → List Byte} {active : List (Entry α)} {pending : List (Option (Entry α))}
          (positive : 1 ≤ size) (known : id.toNat ≤ 4) (few : id.toNat = 3 → n.toNat ≤ 32)
          (table : active.length = tableEntries id.toNat)
          (readActive : t.readEntries id.toNat first.toNat n.toNat false = t.activeRun size f (range active))
          (readPending : t.readEntries id.toNat first.toNat n.toNat true = t.pendingRun size f (range pending)) :
          entries size f active pending := by
        intro least inside
        have count : n.toNat ≠ 0 := fun zero => least (BitVec.eq_of_toNat_eq zero)
        have ok (low : bank.toNat ≤ 1) : readTableOk id.toNat first.toNat n.toNat bank.toNat = true :=
          decide_eq_true ⟨known, count, few, table ▸ inside, low⟩
        refine ⟨?_, ?_⟩
        · rintro rfl
          obtain ⟨parts, each, read⟩ := t.activeRun_eq (f := f) positive (range active)
          exact ⟨parts, each, answered (ok (Nat.zero_le 1)) (readActive.trans read)⟩
        · rintro rfl
          obtain ⟨parts, each, read⟩ := t.pendingRun_eq (f := f) positive (range pending)
          exact ⟨parts, each, answered (ok le_rfl) (readPending.trans read)⟩
      refine ⟨fun bad => ⟨Config.freeIndex s.freeCount, ?_⟩, ?_, ?_, ?_, ?_, ?_⟩
      · refine row.trans (congrArg _ (if_neg ?_))
        exact Bool.eq_false_iff.1 (readTableOk_eq_false bad)
      · rintro rfl rfl rfl
        rw [← sites]
        refine ⟨?_, ?_⟩
        · rintro rfl
          exact items .. ▸ answered rfl rfl
        · rintro rfl
          exact items .. ▸ answered rfl rfl
      · rintro rfl
        rw [← channels]
        exact run (by decide) (by decide) (fun other => absurd other (by decide)) (Vector.length_toList ..) rfl rfl
      · rintro rfl rfl rfl bands
        refine ⟨?_, ?_⟩
        · rintro rfl
          exact answered rfl rfl
        · rintro rfl
          exact items SpeedBands.bytes _ ▸ answered rfl rfl
      · rintro rfl few
        exact run (by decide) (by decide) (fun _ => few) (Vector.length_toList ..) rfl rfl
      · rintro rfl
        exact run (by decide) (by decide) (fun other => absurd other (by decide)) (Vector.length_toList ..) rfl rfl
    · have row : exec (.describe dt) s = .next (State.answer { s.advance dt with port.commands := rest }
          ⟨tag, [0x03, leaf, sub]⟩ .ok (describeBytes leaf.toNat sub.toNat)) :=
        congrArg _ (State.serve_advance dt _ front room rfl)
      rw [row]
      refine ⟨?_, ?_, ?_, fun entries size => ?_, fun other => ?_⟩
      · rintro rfl
        rfl
      · rintro rfl
        rfl
      · rintro rfl
        rfl
      · rintro rfl listed
        rw [show (3 : Byte).toNat = 3 from rfl, describeBytes_table listed]
        rfl
      · rw [describeBytes_other (other.imp_right fun ⟨third, high⟩ => ⟨congrArg BitVec.toNat third, high⟩)]
        rfl
    · intro count time flag item state direction closure cause settle r record role fault node channel zero ambient
      let t : State := { s.advance dt with port.commands := rest }
      have row : exec (.readStatus dt) s = .next (t.answer ⟨tag, [0x04]⟩ .ok t.statusBytes) :=
        congrArg _ (State.serve_advance dt _ front room rfl)
      have items {α : Type} (f : α → List Byte) (o : Option α) : optional f o = item (o.map f) := by cases o <;> rfl
      have flags (b : Bool) : yes b = flag b := yes_eq b
      have states : le1 t.session.state.code = state := by
        show le1 s.session.state.code = state
        simp only [state]
        cases s.session.state <;> rfl
      have powers : le1 t.session.power.code = [if s.session.power = .active then 0 else 1] := by
        show le1 s.session.power.code = _
        cases s.session.power <;> rfl
      have directions : (fun d => le1 (Direction.code d)) = direction := funext fun d => by cases d <;> rfl
      have closures : (fun c => le1 (Closure.code c)) = closure := funext fun c => by cases c <;> rfl
      have causes : le1 t.session.wakeCause.code = cause := by
        show le1 s.session.wakeCause.code = cause
        simp only [cause]
        cases s.session.wakeCause <;> rfl
      have settles : le1 t.session.settleState.code = settle := by
        show le1 s.session.settleState.code = settle
        simp only [settle]
        cases s.session.settleState <;> rfl
      have heads : (fun h => le1 (headCode h)) = fun h => [if h = .a then 0 else 1] := funext fun h => by cases h <;> rfl
      have roles : (fun x => le1 (Role.code x)) = role := funext fun x => by cases x <;> rfl
      have faults : FaultEntry.bytes = fault := funext fun f => by
        simp only [FaultEntry.bytes, items, fault]
        cases f.kind <;> rfl
      have nodes : NodeEntry.bytes = node := funext fun e => by
        simp only [NodeEntry.bytes, items, flags, roles, faults, node]
        cases e.status <;> cases e.type with
        | none => rfl
        | some type => cases type <;> rfl
      have channels : (fun i => yes (t.usable i) ++ optional (fun x => le1 (Unusable.code x)) (t.unusable i)) = channel :=
        funext fun i => by
          show yes (s.unusable i).isNone ++ optional (fun x => le1 (Unusable.code x)) (s.unusable i) = _
          simp only [channel]
          cases s.unusable i with
          | none => rfl
          | some x => cases x <;> rfl
      have tracks : ZeroTrack.bytes = fun z => count (BitVec.ofInt 16 z.offset).toNat ++ flag z.drift :=
        funext fun z => congrArg (leInt z.offset ++ ·) (flags z.drift)
      have zeros : optional ZeroTrack.bytes = zero := funext fun z => by rw [tracks, items]
      have ambients : ambient = t.thermal.ambient.quantity.bytes ++ le2 t.thermal.ambient.count ++
          optional leTime t.thermal.ambient.latched := by
        show _ = s.thermal.ambient.quantity.bytes ++ le2 s.thermal.ambient.count ++ optional leTime s.thermal.ambient.latched
        simp only [ambient, Ambient.quantity, items]
        cases s.thermal.ambient.value <;> rfl
      have entries : t.entryCount = s.entryCount := s.advance_entryCount dt
      have exits : t.exitCount = s.exitCount := s.advance_exitCount dt
      refine row.trans (congrArg (fun l => Host.Outcome.next (u.replied rest ⟨tag, 0x04, .ok, l⟩)) ?_)
      unfold State.statusBytes State.sessionBytes State.channelBytes State.counterBytes SessionRecord.bytes
        HeadState.counterBytes
      rw [channels, zeros, nodes, ambients, states, powers, causes, settles, entries, exits, heads, directions, closures]
      simp only [flags, items, record, List.append_assoc]
      rfl
    · exact congrArg _ (State.serve_bad_length dt _ front room (decide_eq_false (mt List.eq_nil_of_length_eq_zero some)))
  · simp only [State.writeActive, State.activateSite]
    split
    · next unready => rfl
    · next ready => rfl
  · intro t
    have whole : t = { s with
        tables.active.channels := Vec.write s.tables.active.channels first l
        tables.pending.channels := Vec.write s.tables.pending.channels first (l.map fun _ => none)
        rings := Vec.write s.rings first (l.map fun _ => [])
        load.zero := Vec.write s.load.zero first (l.map freshZero)
        port.decimation := Vec.write s.port.decimation first (l.map fun _ => 0) } := State.writeChannels_eq l s first
    clear_value t
    subst whole
    refine ⟨rfl, fun i => ⟨fun e past here => ?_, fun outside => ?_⟩⟩
    · have at' {β : Type} (f : Entry Channel → β) : (l.map f)[i.val - first]? = some (f e) := by
        rw [List.getElem?_map, here]
        rfl
      exact ⟨(Vec.write_written _ first l i).1 e past here, (Vec.write_written _ first _ i).1 _ past (at' _),
        (Vec.write_written _ first _ i).1 _ past (at' _), (Vec.write_written _ first _ i).1 _ past (at' _),
        ((Vec.write_written _ first _ i).1 _ past (at' _)).trans (freshZero_eq e)⟩
    · have outside' {β : Type} (f : Entry Channel → β) : i.val < first ∨ first + (l.map f).length ≤ i.val := by
        rwa [List.length_map]
      exact ⟨(Vec.write_written _ first l i).2 outside, (Vec.write_written _ first _ i).2 (outside' _),
        (Vec.write_written _ first _ i).2 (outside' _), (Vec.write_written _ first _ i).2 (outside' _),
        (Vec.write_written _ first _ i).2 (outside' _)⟩
  · intro written
    have writes {α : Type} {n : Nat} (v : Vector α n) (l : List α) : written v (Vec.write v first l) l :=
      Vec.write_written v first l
    exact ⟨fun _ => rfl, fun l _ => ⟨rfl, writes _ l, writes _ _⟩, fun l _ => ⟨rfl, writes _ l, writes _ _⟩, fun _ => rfl,
      fun _ => rfl, fun l _ => ⟨rfl, writes _ _⟩, fun l _ => ⟨rfl, writes _ _⟩, fun l _ => ⟨rfl, writes _ _⟩⟩
  · intro a p t
    obtain ⟨rings, zero, decimation, whole, each⟩ := s.applyPending_eq
    have whole' : t = _ := whole
    clear_value t
    subst whole'
    refine ⟨rfl, rfl, rfl, fun j => overlayBank_get .., fun j => overlayBank_get .., fun i => ⟨fun none => ?_, fun e some => ?_⟩,
      fun ready => ?_, rfl, rfl, rfl, rfl, rfl, rfl, rfl, rfl⟩
    · obtain ⟨ring, offset, count⟩ := each i
      exact ⟨(overlayBank_get ..).trans (congrArg (Option.getD · _) none), ring.trans (if_pos none),
        offset.trans (congrArg (Option.elim · _ freshZero) none), count.trans (if_pos none)⟩
    · obtain ⟨ring, offset, count⟩ := each i
      have present : s.tables.pending.channels[i] ≠ .none := fun none => nomatch none.symm.trans some
      exact ⟨(overlayBank_get ..).trans (congrArg (Option.getD · _) some), ring.trans (if_neg present),
        count.trans (if_neg present),
        (offset.trans (congrArg (Option.elim · _ freshZero) some)).trans (freshZero_eq e)⟩
    · exact State.applySite_session_of_ready ready

end Sys2Proof.Machine

/-!
PROOFS. Chapter 9: the report copy completes, and the close operation with it (R33, R37, R156).
-/

namespace Sys2Proof.Machine

/-! ## The held crossings -/

theorem State.advance_zero (s : State) : s.advance 0 = s := by
  have clock : s.clock + 0 = s.clock := BitVec.add_zero _
  rw [State.advance, clock]
  rfl

theorem State.setHead_head (s : State) (h : Head) : s.setHead h (s.head h) = s := by
  cases h <;> rfl

/-- Only the taking of a crossing asks whether it may be applied at all (R13). -/
theorem State.applyCrossing_sited (s : State) (x : Crossing) : s.applyCrossing { x with unsited := false } = s.applyCrossing x :=
  rfl

/-- An open session applies a crossing just as the row CROSSING has it taken (R37). -/
theorem State.applyCrossing_as_row {s : State} (x : Crossing) (opened : s.session.state = .armed ∨ s.session.state = .inTrain) :
    exec (.crossing 0 x.head) (s.setHead x.head { s.head x.head with
      emitted := { x with unsited := false } :: (s.head x.head).emitted }) = .next (s.applyCrossing x) := by
  have front : ((s.setHead x.head { s.head x.head with
      emitted := { x with unsited := false } :: (s.head x.head).emitted }).head x.head).emitted =
      { x with unsited := false } :: (s.head x.head).emitted := by simp
  rw [execCrossing_takes front, State.advance_zero, State.head_setHead_self, State.setHead_setHead]
  have back : s.setHead x.head { s.head x.head with emitted := (s.head x.head).emitted } = s := s.setHead_head x.head
  rw [back, State.takeCrossing_open rfl, State.applyCrossing_sited]
  rcases opened with state | state <;> simp [state]

/-- Held crossings applied by any function that does as the row in an open session. -/
theorem State.foldl_eq_applyAll {f : State → Crossing → State}
    (row : ∀ (y : State) (x : Crossing), y.session.state = .armed ∨ y.session.state = .inTrain → f y x = y.applyCrossing x)
    (l : List Crossing) : ∀ y : State, y.session.state = .armed ∨ y.session.state = .inTrain → l.foldl f y = y.applyAll l := by
  induction l with
  | nil => exact fun _ _ => rfl
  | cons x l ih =>
    intro y opened
    rw [List.foldl_cons, row y x opened]
    exact ih _ (.inr (y.applyCrossing_state x))

/-- The session as later crossings leave it. -/
theorem State.applyAll_session {g : Head} (l : List Crossing) : ∀ (s : State) (x : Crossing), s.session.entryHead = some g →
    s.session.state = .inTrain → s.session.record.lastCrossing = some x.time →
    (s.applyAll l).session.state = .inTrain ∧ (s.applyAll l).session.seq = s.session.seq ∧
    (s.applyAll l).session.held = s.session.held ∧ (s.applyAll l).session.entryHead = some g ∧
    (s.applyAll l).session.record = { s.session.record with lastCrossing := ((x :: l).getLast?).map (·.time) } := by
  induction l with
  | nil =>
    intro s x entry state last
    refine ⟨state, rfl, rfl, entry, ?_⟩
    rw [show ([x].getLast?).map (·.time) = s.session.record.lastCrossing from last.symm]
    rfl
  | cons y l ih =>
    intro s x entry state last
    have later := s.applyCrossing_later_session entry y
    obtain ⟨state', seq, held, entry', record⟩ := ih (s.applyCrossing y) y (by rw [later]; exact entry) (by rw [later])
      (by rw [later])
    rw [later] at seq held record
    exact ⟨state', seq, held, entry', record⟩

/-- The session that held crossings have opened: the first fixes entry head and direction. -/
theorem State.applyAll_fresh {s : State} (fresh : s.session.entryHead = none) (x : Crossing) (l : List Crossing) :
    (s.applyAll (x :: l)).session.state = .inTrain ∧ (s.applyAll (x :: l)).session.seq = s.session.seq ∧
    (s.applyAll (x :: l)).session.held = s.session.held ∧ (s.applyAll (x :: l)).session.entryHead = some x.head ∧
    (s.applyAll (x :: l)).session.record.firstCrossing = some x.time ∧
    (s.applyAll (x :: l)).session.record.direction = some (entryDirection x.head) ∧
    (s.applyAll (x :: l)).session.record.noApproach = s.session.record.noApproach ∧
    (s.applyAll (x :: l)).session.record.lastCrossing = ((x :: l).getLast?).map (·.time) := by
  have counted := (State.countCrossing_frame (s.fixEntry x) x true).2.1
  have session : (s.applyCrossing x).session = { (s.fixEntry x).session.stopTimers with
      record := { (s.fixEntry x).session.record with lastCrossing := some x.time }, state := .inTrain
      standstill := (s.applyCrossing x).session.standstill } := by
    rw [State.applyCrossing_first fresh]
    generalize (s.fixEntry x).countCrossing x true = c at counted ⊢
    rw [← counted]
    rfl
  obtain ⟨state, seq, held, entry, record⟩ := State.applyAll_session (g := x.head) l (s.applyCrossing x) x
    (by rw [session]; rfl) (by rw [session]) (by rw [session])
  rw [session] at seq held record
  exact ⟨state, seq, held, entry, by rw [State.applyAll, record]; rfl, by rw [State.applyAll, record]; rfl,
    by rw [State.applyAll, record]; rfl, by rw [State.applyAll, record]⟩

/-! ## The Alert Table's T7 over the next session's opening -/

theorem State.applyCrossing_t7 (s : State) (x : Crossing) : (s.applyCrossing x).alertEntry .t7 = s.alertEntry .t7 := by
  have same {u v : State} (alert : u.alert = v.alert) : u.alertEntry .t7 = v.alertEntry .t7 :=
    congrArg (fun a => a.entries[AlertKind.t7.idx]) alert
  have fixed : (if s.session.entryHead.isNone then s.fixEntry x else s).alertEntry .t7 = s.alertEntry .t7 := by
    split <;> rfl
  have reversed (u : State) : (u.noteReversal x).alertEntry .t7 = u.alertEntry .t7 := by
    unfold State.noteReversal
    split
    · rfl
    · exact State.raise_entry_ne _ _ (by decide)
  have read : (s.readCrossing x).alertEntry .t7 = s.alertEntry .t7 := by
    unfold State.readCrossing
    dsimp only
    split
    · exact fixed
    · exact (reversed _).trans fixed
  have created (u : State) (k : Nat) : (u.newOrdinal k x).alertEntry .t7 = u.alertEntry .t7 := by
    unfold State.newOrdinal
    repeat' split
    · rfl
    · rfl
    · exact State.raise_entry_ne _ _ (by decide)
  have risen (u : State) (k : Nat) : (u.entryRise k x).alertEntry .t7 = u.alertEntry .t7 := by
    unfold State.entryRise
    split
    · exact (same (by simp)).trans (created u k)
    · split
      · split
        · rfl
        · exact same (by simp)
      · rfl
  have counted (u : State) (w : Bool) : (u.countCrossing x w).alertEntry .t7 = u.alertEntry .t7 := by
    unfold State.countCrossing
    dsimp only
    repeat' split
    · rfl
    · exact (risen _ _).trans rfl
    · exact same (by simp)
    · exact (State.raise_entry_ne _ _ (by decide)).trans rfl
    · exact same (by simp)
    · exact same (by simp)
  have finished (u : State) (w : Bool) : (u.finishCrossing x w).alertEntry .t7 = u.alertEntry .t7 := by
    unfold State.finishCrossing
    split <;> rfl
  rw [State.applyCrossing_eq, finished, counted, read]

theorem State.applyAll_t7 (l : List Crossing) : ∀ s : State, (s.applyAll l).alertEntry .t7 = s.alertEntry .t7 := by
  induction l with
  | nil => exact fun _ => rfl
  | cons x l ih => exact fun s => (ih _).trans (s.applyCrossing_t7 x)

theorem State.openSession_alertEntry (s : State) (st : SessionState) (b : Bool) (k : AlertKind) :
    (s.openSession st b).alertEntry k = s.alertEntry k := by
  have entries : (s.openSession st b).alert.entries = s.alert.entries := by simp [State.openSession]
  exact congrArg (fun v : Vector AlertEntry 21 => v[k.idx]) entries

/-! ## The report installed (R154, R156) -/

theorem State.offerAlertIf_freeCount (s : State) (n : Nat) (k : AlertKind) (before : AlertEntry) (src : Source) :
    ({ s with freeCount := n } : State).offerAlertIf k before src = { s.offerAlertIf k before src with freeCount := n } := by
  unfold State.offerAlertIf State.offerAlert
  dsimp only
  split
  · split <;> rfl
  · rfl

/-- The free values drawn play no part in a raise. -/
theorem State.raise_freeCount (s : State) (n : Nat) (k : AlertKind) (q : Half) :
    ({ s with freeCount := n } : State).raise k (.train q) = { s.raise k (.train q) with freeCount := n } := by
  have written : ({ s with freeCount := n } : State).writeRaised k (.train q) =
      { s.writeRaised k (.train q) with freeCount := n } := rfl
  rw [State.raise_eq_steps, written, State.offerAlertIf_freeCount, State.countTrainRaise_eq, State.raise_eq_steps,
    State.countTrainRaise_eq]
  rfl

theorem State.loseOld_of_held {s : State} {i : Fin 4} {old : Report} (held : (s.report.slots[i]).state = .held)
    (report : (s.report.slots[i]).report = some old) : s.loseOld i =
      ({ s with report.lost := min (s.report.lost + 1) 65535 } : State).raise .t7 (.train old.header.record.seq) := by
  simp only [State.loseOld, held, report]
  rfl

theorem State.loseOld_of_free {s : State} {i : Fin 4}
    (free : (s.report.slots[i]).state ≠ .held ∨ (s.report.slots[i]).report = none) : s.loseOld i = s := by
  unfold State.loseOld
  split
  · next old held report => exact (free.elim (fun h => h held) fun h => nomatch h.symm.trans report).elim
  · rfl

theorem State.loseOld_freeCount (s : State) (n : Nat) (i : Fin 4) :
    ({ s with freeCount := n } : State).loseOld i = { s.loseOld i with freeCount := n } := by
  by_cases free : (s.report.slots[i]).state ≠ .held ∨ (s.report.slots[i]).report = none
  · rw [State.loseOld_of_free free, State.loseOld_of_free (s := { s with freeCount := n }) free]
  · obtain ⟨held, some⟩ := not_or.1 free
    obtain ⟨old, report⟩ := Option.ne_none_iff_exists'.1 some
    rw [State.loseOld_of_held (not_not.1 held) report,
      State.loseOld_of_held (s := { s with freeCount := n }) (not_not.1 held) report]
    exact State.raise_freeCount { s with report.lost := min (s.report.lost + 1) 65535 } n .t7 old.header.record.seq

/-- What the loss of the old report changes: its count, the alert unit and the ALERT class. -/
theorem State.loseOld_changes (s : State) (i : Fin 4) : s.loseOld i = { s with
    report.lost := (s.loseOld i).report.lost, alert := (s.loseOld i).alert, port.alertQ := (s.loseOld i).port.alertQ } := by
  by_cases held : (s.report.slots[i]).state = .held
  · cases report : (s.report.slots[i]).report with
    | none => rw [State.loseOld_of_free (.inr report)]
    | some old =>
      rw [State.loseOld_of_held held report]
      have changes := State.raise_changes_of_unnamed (s := { s with report.lost := min (s.report.lost + 1) 65535 }) .t7
        (src := .train old.header.record.seq) (fun _ _ => Source.noConfusion)
      generalize State.raise _ _ _ = t at changes ⊢
      have lost : t.report.lost = min (s.report.lost + 1) 65535 := congrArg (fun t : State => t.report.lost) changes
      rw [lost]
      exact changes
  · rw [State.loseOld_of_free (.inl held)]

theorem State.copiedRecord_eq (s : State) (r : AxleRecord) :
    s.copiedRecord r = r ∨ ∃ a, s.record? r.ordinal = some a ∧ s.copiedRecord r = { r with camera := a.camera } := by
  unfold State.copiedRecord
  split
  · next a found =>
    split
    · exact .inl rfl
    · split
      · exact .inr ⟨a, found, rfl⟩
      · exact .inl rfl
  · exact .inl rfl

end Sys2Proof.Machine

/-!
PROOFS. Chapter 9: the row REPORT_COPY_COMPLETE.
-/

namespace Sys2Proof.Machine

/-- The state with the new report in its slot (R156). -/
def State.installed (u : State) (i : Fin 4) (r : Report) : State :=
  { u.loseOld i with
    freeCount := u.freeCount + 1025
    report := { (u.loseOld i).report with
      slots := u.report.slots.set i { state := .held, report := some r, writing := false }
      order := u.report.order.filter (· ≠ i) ++ [i]
      closed := min (u.report.closed + 1) 65535, copy := none } }

theorem State.install_settled (u : State) (i : Fin 4) (rep : Report) :
    (u.settleCopy rep).2.install i (u.settleCopy rep).1 =
      u.installed i { rep with axles := rep.axles.map u.copiedRecord } := by
  have changes := u.loseOld_changes i
  have slots : (u.loseOld i).report.slots = u.report.slots :=
    (congrArg (fun t : State => t.report.slots) changes).trans rfl
  have order : (u.loseOld i).report.order = u.report.order :=
    (congrArg (fun t : State => t.report.order) changes).trans rfl
  have closed : (u.loseOld i).report.closed = u.report.closed :=
    (congrArg (fun t : State => t.report.closed) changes).trans rfl
  rw [State.install, State.settleCopy, State.loseOld_freeCount, State.putReport, State.installed]
  dsimp only
  rw [slots, order, closed]
  rfl

theorem State.loseOld_lost (s : State) (i : Fin 4) : (s.loseOld i).report.lost =
    if (s.report.slots[i]).state = .held ∧ (s.report.slots[i]).report ≠ none then min (s.report.lost + 1) 65535
    else s.report.lost := by
  by_cases full : (s.report.slots[i]).state = .held ∧ (s.report.slots[i]).report ≠ none
  · obtain ⟨old, report⟩ := Option.ne_none_iff_exists'.1 full.2
    rw [if_pos full, State.loseOld_of_held full.1 report]
    simp
  · rw [if_neg full, State.loseOld_of_free (by rwa [not_and_or, not_not] at full)]

/-- What the installed report leaves as it was. -/
structure State.Kept (u v : State) : Prop where
  clock : v.clock = u.clock
  heads : v.heads = u.heads
  session : v.session = u.session
  axles : v.axles = u.axles
  vehicles : v.group = u.group
  tables : v.tables = u.tables
  results : v.port.resultQ = u.port.resultQ
  skipped : v.port.resultsSkipped = u.port.resultsSkipped

theorem State.installed_kept (u : State) (i : Fin 4) (r : Report) : u.Kept (u.installed i r) := by
  have changes := u.loseOld_changes i
  have same {α : Type} (f : State → α) : f (u.loseOld i) = f { u with
      report.lost := (u.loseOld i).report.lost, alert := (u.loseOld i).alert, port.alertQ := (u.loseOld i).port.alertQ } :=
    congrArg f changes
  exact ⟨same State.clock, same State.heads, same State.session, same State.axles, same State.group, same State.tables,
    same fun t => t.port.resultQ, same fun t => t.port.resultsSkipped⟩

theorem State.trainEndFrame_congr {u v : State} (kept : u.Kept v) (i : Fin 4) : v.trainEndFrame i = u.trainEndFrame i := by
  obtain ⟨entries, exits⟩ := State.counts_congr (congrArg SessionCtl.entryHead kept.session)
    (congrArg (fun h => h.a.count) kept.heads) (congrArg (fun h => h.b.count) kept.heads)
  rw [State.trainEndFrame, State.trainEndFrame, entries, exits, kept.session, kept.axles, kept.vehicles]

theorem execReportCopyComplete_of_copy {s : State} {dt : Time} {i : Fin 4} {rep : Report} (closing : s.session.state = .closing)
    (copy : s.report.copy = some (i, rep)) : ∃ B r, B = (s.advance dt).installed i r ∧
      r = { rep with axles := rep.axles.map (s.advance dt).copiedRecord } ∧
      exec (.reportCopyComplete dt) s =
        .next ((B.offerResult ((s.advance dt).trainEndFrame i)).applyPending.completeClose) := by
  refine ⟨_, _, rfl, rfl, ?_⟩
  have copy' : (s.advance dt).report.copy = some (i, rep) := copy
  simp only [exec, execReportCopyComplete, copy']
  refine (if_pos closing).trans ?_
  rw [State.install_settled, State.trainEndFrame_congr (State.installed_kept ..)]

/-- The close operation ends by what was remembered and held (R37). -/
theorem State.completeClose_eq {s : State} : s.completeClose =
    if s.session.rememberedApproach = true then
      (({ s with session.held := [] } : State).openSession .armed false).applyAll s.session.held
    else if s.session.held ≠ [] then
      (({ s with session.held := [] } : State).openSession .inTrain true).applyAll s.session.held
    else ({ s with session.held := [] } : State).enterIdle := by
  unfold State.completeClose
  cases s.session.rememberedApproach <;> cases s.session.held <;> rfl

theorem State.openSession_resultQ (s : State) (st : SessionState) (b : Bool) :
    (s.openSession st b).port.resultQ = s.port.resultQ := by
  have replied (u : State) (r : Reply) : (u.offerReply r).port.resultQ = u.port.resultQ := by
    unfold State.offerReply
    split <;> rfl
  have ended (u : State) : u.openEndsTransaction.port.resultQ = u.port.resultQ := by
    unfold State.openEndsTransaction
    repeat' split
    · rfl
    · rfl
    · exact replied ..
  exact ended _

theorem State.completeClose_t7 (s : State) : s.completeClose.alertEntry .t7 = s.alertEntry .t7 := by
  rw [State.completeClose_eq]
  repeat' split
  · rw [State.applyAll_t7, State.openSession_alertEntry]
    rfl
  · rw [State.applyAll_t7, State.openSession_alertEntry]
    rfl
  · rfl

theorem State.completeClose_resultQ {s : State} (none : s.session.held = []) :
    s.completeClose.port.resultQ = s.port.resultQ := by
  rw [State.completeClose_eq, none]
  split
  · exact State.openSession_resultQ ..
  · rfl

/-- The session after the close operation. -/
theorem State.completeClose_session (s : State) :
    s.completeClose.session.state = (if s.session.held ≠ [] then .inTrain
      else if s.session.rememberedApproach = true then .armed else .idle) ∧
    s.completeClose.session.held = [] ∧
    s.completeClose.session.seq = (if s.session.held = [] ∧ s.session.rememberedApproach = false then s.session.seq
      else s.session.seq + 1) := by
  rw [State.completeClose_eq]
  obtain ⟨armed, -⟩ := State.openSession_parts { s with session.held := [] } .armed false
  obtain ⟨entered, -⟩ := State.openSession_parts { s with session.held := [] } .inTrain true
  cases held : s.session.held with
  | nil =>
    cases remembered : s.session.rememberedApproach with
    | true =>
      simp only [if_true, State.applyAll, armed]
      exact ⟨rfl, rfl, rfl⟩
    | false => exact ⟨rfl, rfl, rfl⟩
  | cons x l =>
    cases remembered : s.session.rememberedApproach with
    | true =>
      obtain ⟨state, seq, none, -⟩ := State.applyAll_fresh (s := State.openSession { s with session.held := [] } .armed false)
        (by rw [armed]) x l
      rw [armed] at seq none
      exact ⟨state, none, seq⟩
    | false =>
      obtain ⟨state, seq, none, -⟩ := State.applyAll_fresh (s := State.openSession { s with session.held := [] } .inTrain true)
        (by rw [entered]) x l
      rw [entered] at seq none
      exact ⟨state, none, seq⟩

/-- The session that held crossings open (R37). -/
theorem State.completeClose_held {s : State} {x : Crossing} {l : List Crossing} (held : s.session.held = x :: l) :
    s.completeClose.session.entryHead = some x.head ∧
    s.completeClose.session.record.firstCrossing = some x.time ∧
    s.completeClose.session.record.lastCrossing = ((x :: l).getLast?).map (·.time) ∧
    s.completeClose.session.record.direction = some (entryDirection x.head) ∧
    s.completeClose.session.record.noApproach = !s.session.rememberedApproach := by
  rw [State.completeClose_eq, held]
  obtain ⟨armed, -⟩ := State.openSession_parts { s with session.held := [] } .armed false
  obtain ⟨entered, -⟩ := State.openSession_parts { s with session.held := [] } .inTrain true
  cases remembered : s.session.rememberedApproach with
  | true =>
    obtain ⟨-, -, -, entry, first, direction, approach, last⟩ :=
      State.applyAll_fresh (s := State.openSession { s with session.held := [] } .armed false) (by rw [armed]) x l
    rw [armed] at approach
    exact ⟨entry, first, last, direction, approach⟩
  | false =>
    obtain ⟨-, -, -, entry, first, direction, approach, last⟩ :=
      State.applyAll_fresh (s := State.openSession { s with session.held := [] } .inTrain true) (by rw [entered]) x l
    rw [entered] at approach
    exact ⟨entry, first, last, direction, approach⟩

theorem State.offerResult_eq (s : State) (f : OutFrame) : s.offerResult f = (s.site).elim s fun sc =>
    if sc.liveResults = false then s
    else if s.port.resultQ.length < 64 then { s with port.resultQ := s.port.resultQ ++ [f] }
    else { s with port.resultsSkipped := min (s.port.resultsSkipped + 1) 65535 } := by
  unfold State.offerResult
  cases s.site with
  | none => rfl
  | some sc =>
    cases live : sc.liveResults with
    | false => simp [live]
    | true =>
      simp only [live, if_true, Option.elim, Bool.true_eq_false, if_false]
      rfl

/-- Settles O52: the report installed, TRAIN END offered, the pending entries applied, and the next session as the row
CROSSING would have it. -/
theorem reportCopyCompletes : Obligations.ReportCopyCompletes := by
  intro s dt i rep closing copy u lost frame offered crossed
  obtain ⟨B, r, installed, settled, row⟩ := execReportCopyComplete_of_copy (dt := dt) closing copy
  have kept : u.Kept B := installed ▸ State.installed_kept u i r
  have offeredEq (y : State) (site : y.site = s.site) (results : y.port.resultQ = s.port.resultQ)
      (skipped : y.port.resultsSkipped = s.port.resultsSkipped) : offered y = y.offerResult frame := by
    rw [State.offerResult_eq, site, results, skipped]
    simp only [offered]
    cases s.site <;> rfl
  have frameEq : u.trainEndFrame i = frame := by
    rw [State.trainEndFrame, s.advance_entryCount dt, s.advance_exitCount dt]
    rfl
  rw [show (s.advance dt).trainEndFrame i = frame from frameEq] at row
  have crossedEq (y : State) (x : Crossing) (opened : y.session.state = .armed ∨ y.session.state = .inTrain) :
      crossed y x = y.applyCrossing x := by
    simp only [crossed, y.applyCrossing_as_row x opened]
  let A : State := (B.offerResult frame).applyPending
  have sessionO : (B.offerResult frame).session = s.session :=
    (show _ = B.session by simp).trans kept.session
  have tablesO : (B.offerResult frame).tables = s.tables := (show _ = B.tables by simp).trans kept.tables
  have sessionA : A.session = s.session :=
    (State.applyPending_session (by rw [sessionO]; exact closing)).trans sessionO
  have clockA : A.clock = u.clock := (show _ = B.clock by simp [A]).trans kept.clock
  have alertA : A.alert = (u.loseOld i).alert := by
    rw [show (u.loseOld i).alert = B.alert by rw [installed]; rfl]
    simp [A]
  have tables : A.completeClose.tables = s.applyPending.tables := by
    obtain ⟨_, _, _, own, -⟩ := (B.offerResult frame).applyPending_eq
    obtain ⟨_, _, _, other, -⟩ := s.applyPending_eq
    rw [(State.completeClose_frame A).2.2.2.1, show A.tables = _ from congrArg State.tables own,
      show s.applyPending.tables = _ from congrArg State.tables other, tablesO]
  have report : A.completeClose.report = B.report := by simp [A]
  have lose := u.loseOld_changes i
  have t7 : A.completeClose.alertEntry .t7 = (u.loseOld i).alertEntry .t7 :=
    A.completeClose_t7.trans (congrArg (fun a : AlertUnit => a.entries[AlertKind.t7.idx]) alertA)
  obtain ⟨state, held, seq⟩ := A.completeClose_session
  rw [sessionA] at state seq
  refine ⟨A.completeClose, r, row, ?_, tables, fun e entry => ⟨fun old full report => ?_, fun free => ?_⟩, fun x l waiting => ?_,
    ?_, ?_, ?_, ?_, ?_, ?_, ?_, ?_, ?_, ?_, ?_, ?_, state, held, seq, fun sc site live room none number => ?_⟩
  · intro applied closed
    have place : B.site = s.site := congrArg (fun t : TableStore => t.active.site) kept.tables
    have base : applied = A := congrArg State.applyPending
      ((congrArg offered installed.symm).trans (offeredEq B place kept.results kept.skipped))
    have closedEq : closed = { A with session.held := [] } :=
      congrArg (fun y : State => ({ y with session.held := [] } : State)) base
    have heldA : A.session.held = s.session.held := congrArg SessionCtl.held sessionA
    refine State.completeClose_eq.trans (if_congr (by rw [sessionA]) ?_ (if_congr (by rw [sessionA]) ?_ ?_))
    · rw [State.foldl_eq_applyAll crossedEq _ _ (.inl (State.openSession_state ..)), closedEq, heldA]
    · rw [State.foldl_eq_applyAll crossedEq _ _ (.inr (State.openSession_state ..)), closedEq, heldA]
    · rw [closedEq, base, ← clockA]
      rfl
  · rw [t7, State.loseOld_of_held (s := u) full report, State.raise_entry_self, entry]
    rfl
  · rw [t7, State.loseOld_of_free (s := u) free, entry]
    rfl
  · obtain ⟨head, first, last, direction, approach⟩ :=
      State.completeClose_held ((congrArg SessionCtl.held sessionA).trans waiting)
    rw [sessionA] at approach
    refine ⟨head, first, last, direction.trans ?_, approach⟩
    cases x.head <;> rfl
  · rw [settled]
    exact List.forall₂_map_left_iff.2 (List.forall₂_same.2 fun old _ => u.copiedRecord_eq old)
  · rw [report, installed]
    rfl
  · rw [settled]
  · rw [settled]
  · rw [settled, List.map_map]
    refine List.map_congr_left fun old _ => ?_
    rcases u.copiedRecord_eq old with same | ⟨a, -, late⟩
    · exact congrArg (fun x : AxleRecord => { x with camera := none }) same
    · exact congrArg (fun x : AxleRecord => { x with camera := none }) late
  · rw [report, installed]
    rfl
  · rw [report, installed]
    rfl
  · rw [report, installed]
    exact (congrArg (fun t : State => t.report.releases) lose).trans rfl
  · rw [report, installed]
    exact u.loseOld_lost i
  · rw [report, installed]
    rfl
  · rw [report, installed]
    exact (congrArg (fun t : State => t.report.engine) lose).trans rfl
  · rw [tables]
    rfl
  · obtain ⟨_, _, _, own, -⟩ := (B.offerResult frame).applyPending_eq
    have queue : A.port.resultQ = (B.offerResult frame).port.resultQ :=
      (congrArg (fun t : State => t.port.resultQ) own).trans rfl
    have place : B.site = some sc := (congrArg (fun t : TableStore => t.active.site) kept.tables).trans site
    have fits : B.port.resultQ.length < 64 := kept.results ▸ room
    rw [State.completeClose_resultQ ((congrArg SessionCtl.held sessionA).trans none), queue,
      State.offerResult_of_room frame place live fits, ← number]
    exact congrArg (· ++ [frame]) kept.results

end Sys2Proof.Machine
